-- ==== Sys2Proof/Word.lean ====
section
/-! DEFINITION. The widths of the values the core works on (spec/00_scope.md R7, R9, R10). Every value is an
unsigned bit vector; index 0 is its least significant bit, DES position 1 its most significant. -/

namespace Sys2Proof

/-- A Block, BLOCK_W = 64 bits (R7). -/
abbrev Block := BitVec 64

/-- A MasterKey, KEY_W = 64 bits, of which 56 are significant (R7). -/
abbrev MasterKey := BitVec 64

/-- A half of a block, HALF_W = 32 bits (R7). -/
abbrev Half := BitVec 32

/-- A key half C or D, KEYHALF_W = 28 bits (R7). -/
abbrev KeyHalf := BitVec 28

/-- A RoundKey, RK_W = 48 bits (R7). -/
abbrev RoundKey := BitVec 48

/-- The S-box input, CHUNK_W = 6 bits (R7). -/
abbrev Chunk := BitVec 6

/-- The S-box output, NIB_W = 4 bits (R7). -/
abbrev Nibble := BitVec 4

/-- A round number 0..15, RCNT_W = 4 bits (R9). -/
abbrev RoundIndex := BitVec 4

/-- The round-key file: N_RK = 16 entries indexed 0..15 (R7, R23). -/
abbrev RoundKeys := Vector RoundKey 16

/-- The width of the longest word of the opcode table: a command word CMDW, 67 bits (30_encoding.md R72). The words
of the other formats are written in the same 67 bits, zero above their own length. -/
abbrev InstrWord := BitVec 67

/-- A permutation table: 1-based positions counted from the most significant bit of the source word, entry `T[0]`
first (R102). -/
abbrev PermTable := List Nat

end Sys2Proof
end

