-- ==== Sys2Proof/Config.lean ====
section
/-! DEFINITION. What is fixed for the machine, and the one open parameter of the spec (spec/00_scope.md R9). -/

namespace Sys2Proof

/-- The registers reset does not write, as one record: the shape of the open parameter RESET_DRAW (R9, R37). -/
structure ResetDraw where
  l : Half
  r : Half
  c : KeyHalf
  d : KeyHalf
  rk : RoundKeys
  dout : Block
  dec : Bool
  deriving DecidableEq, Repr, Inhabited

/-- RESET_DRAW (R9, 92_eei_decisions.md D10): what `L`, `R`, `C`, `D`, `RK`, `DOUT`, `DEC` hold after the first reset.
DESIGN CHOICE (log entry 1): a constant with no body, so that nothing can rest on its value; the spec forbids
fixing these registers to zero (R37). -/
opaque Config.resetDraw : ResetDraw

/-- The sixteen round numbers in the order in which rounds run, "For round `i` = 0..15" (R61). -/
def Config.roundIndices : List RoundIndex := [0, 1, 2, 3, 4, 5, 6, 7, 8, 9, 10, 11, 12, 13, 14, 15]

end Sys2Proof
end

