-- ==== Sys2Proof/Syntax.lean ====
section
/-! DEFINITION. The instructions: one constructor per row of spec/opcode_table.json, with the operands the spec gives
the row. -/

namespace Sys2Proof

/-- The `format` of a row of the opcode table (30_encoding.md, opening). The format is no field of a word: commands
arrive on the command port, `tsel`, the S-box address and the rotation amount are codes inside the core, and the STEP
rows are selected by the register PHASE. -/
inductive Format where
  | cmd    -- the eight values of `op` (R72, R74, R75), 67 bits
  | tsel   -- the eight values of `tsel` (R78), 3 bits, and the operand the selected table reads
  | saddr  -- the S-box address (R79), 9 bits
  | rot    -- the rotation amount (R80), 1 bit, and the 28-bit operand
  | step   -- the sequencer's own steps, the 2 bits of PHASE (R25)
  deriving DecidableEq, Repr

/-- The formats of the combinational units: what can be looked at without a clock edge. -/
inductive UnitFormat where
  | tsel
  | saddr
  | rot
  deriving DecidableEq, Repr

def UnitFormat.toFormat : UnitFormat → Format
  | .tsel => .tsel
  | .saddr => .saddr
  | .rot => .rot

/-- One constructor per row of spec/opcode_table.json, in the table's order. -/
inductive Instr where
  /-- NOP, op 000 (R192); `data` is ignored. -/
  | nop (data : BitVec 64)
  /-- LOADKEY, op 001 (R140); `data` is the master key. -/
  | loadkey (data : MasterKey)
  /-- ENCRYPT, op 010 (R190); `data` is the plaintext block. -/
  | encrypt (data : Block)
  /-- DECRYPT, op 011 (R191); `data` is the ciphertext block. -/
  | decrypt (data : Block)
  /-- RESERVED_4, op 100 (R75, R203); `data` is ignored. -/
  | reserved4 (data : BitVec 64)
  /-- RESERVED_5, op 101 (R75, R203); `data` is ignored. -/
  | reserved5 (data : BitVec 64)
  /-- RESERVED_6, op 110 (R75, R203); `data` is ignored. -/
  | reserved6 (data : BitVec 64)
  /-- RESERVED_7, op 111 (R75, R203); `data` is ignored. -/
  | reserved7 (data : BitVec 64)
  /-- IP, tsel 000 (R110). -/
  | ip (x : BitVec 64)
  /-- FP, tsel 001 (R111). -/
  | fp (x : BitVec 64)
  /-- E, tsel 010 (R112). -/
  | e (r : BitVec 32)
  /-- P, tsel 011 (R113). -/
  | p (s : BitVec 32)
  /-- PC1C, tsel 100 (R114). -/
  | pc1c (k : BitVec 64)
  /-- PC1D, tsel 101 (R115). -/
  | pc1d (k : BitVec 64)
  /-- PC2, tsel 110 (R116). -/
  | pc2 (cd : BitVec 56)
  /-- TSEL_RESERVED_7, tsel 111 (R78): no table, hence no operand. -/
  | tselReserved7
  /-- SBOX, the S-box address `i ‖ row ‖ col` (R79, R150). -/
  | sbox (i : BitVec 3) (row : BitVec 2) (col : BitVec 4)
  /-- ROTL28_1, rotation amount 1 (R80, R130). -/
  | rotl28By1 (x : BitVec 28)
  /-- ROTL28_2, rotation amount 2 (R80, R130). -/
  | rotl28By2 (x : BitVec 28)
  /-- KS_STEP, PHASE 01 (R138). -/
  | ksStep
  /-- RND_STEP, PHASE 10 (R186). -/
  | rndStep
  deriving DecidableEq, Repr

/-- The format of a row, as the opcode table has it. -/
def Instr.format : Instr → Format
  | .nop _ | .loadkey _ | .encrypt _ | .decrypt _ => .cmd
  | .reserved4 _ | .reserved5 _ | .reserved6 _ | .reserved7 _ => .cmd
  | .ip _ | .fp _ | .e _ | .p _ | .pc1c _ | .pc1d _ | .pc2 _ | .tselReserved7 => .tsel
  | .sbox _ _ _ => .saddr
  | .rotl28By1 _ | .rotl28By2 _ => .rot
  | .ksStep | .rndStep => .step

/-- Why a word is no instruction of its format. -/
inductive DecodeError where
  /-- A bit is set above the word's own length (the operand the selected table reads, R78; the S-box address, R79;
  the operand of a rotation, R130; the two bits of PHASE, R25). -/
  | strayBits
  /-- A STEP word that selects no step: PHASE 00 is IDLE and PHASE 11 is never reached (R25). -/
  | noStep
  deriving DecidableEq, Repr

end Sys2Proof
end

