-- ==== Sys2Proof/Machine/State.lean ====
section
/-! DEFINITION. The state of the core (spec/10_state.md R20), what the host drives, the reasons a step can stop, and the
state after reset (70_reset_and_hazards.md R230, R231). -/

namespace Sys2Proof.Machine

/-- PHASE, the 2-bit sequencer position (R25): each of its four codes by name. -/
inductive Phase where
  | idle    -- 0
  | ks      -- 1, key schedule running
  | rnd     -- 2, cipher rounds running
  | phase3  -- 3, never reached (R34): no rule gives it a step
  deriving DecidableEq, Repr

/-- The levels of the input ports at one rising edge of `clk` (30_encoding.md R71). -/
structure Pins where
  rst : Bool
  cmdValid : Bool
  cmdOp : BitVec 3
  cmdData : BitVec 64
  deriving DecidableEq, Repr

/-- One item of what the host does (30_encoding.md R81, R82, 70_reset_and_hazards.md R240, R245). MODEL's own (log
entry 2): `step` is a function of State alone, so what the host will drive stands in State. -/
inductive Input where
  /-- The host drives exactly these levels for one edge, whatever they are. -/
  | edge (p : Pins)
  /-- The host presents a command and keeps it presented until the edge at which it is accepted (R81, R240). -/
  | hold (op : BitVec 3) (data : BitVec 64)
  /-- WAIT: the host presents nothing until `busy` = 0 (R82). -/
  | wait
  /-- No edge: a combinational unit is looked at, on this word of its format (log entry 3). -/
  | unit (u : UnitFormat) (w : InstrWord)
  deriving DecidableEq, Repr

/-- The value on the output of a combinational unit, at the unit's own width (R78, R79, R80; 92_eei_decisions.md D17:
widths are per use, not a common bus). -/
inductive UnitOut where
  | w64 (y : BitVec 64)  -- IP, FP
  | w48 (y : BitVec 48)  -- E, PC2
  | w32 (y : BitVec 32)  -- P
  | w28 (y : BitVec 28)  -- PC1C, PC1D, ROTL28
  | w4 (y : BitVec 4)    -- SBOX
  deriving DecidableEq, Repr

/-- The whole state of the core (R20), and two fields of the model's own: `inputs` and `unitOut`. -/
structure State where
  /-- `L`, the high half of the block in process (R21). -/
  l : Half
  /-- `R`, the low half (R21). -/
  r : Half
  /-- `C`, the high key half (R22). -/
  c : KeyHalf
  /-- `D`, the low key half (R22). -/
  d : KeyHalf
  /-- `RK[0]` .. `RK[15]` (R23). -/
  rk : RoundKeys
  /-- `DOUT`, the result register (R24). -/
  dout : Block
  /-- `PHASE` (R25). -/
  phase : Phase
  /-- `RCNT` (R25, R26). -/
  rcnt : RoundIndex
  /-- `DEC`, the direction of the operation in progress: 1 = decrypt (R27). -/
  dec : Bool
  /-- `DONE` (R28). -/
  done : Bool
  /-- `KEY_VALID` (R29). -/
  keyValid : Bool
  /-- `ERR` (R31). -/
  err : BitVec 2
  /-- MODEL's own: what the host drives from now on, the next item first; empty: it presents nothing (log entry 2). -/
  inputs : List Input
  /-- MODEL's own: the output of the combinational unit last looked at by itself (log entry 3). No step reads it. -/
  unitOut : Option UnitOut
  deriving DecidableEq, Repr

/-- Why the machine stops with a fault. -/
inductive Fault where
  /-- Raised by `step` at an edge with `rst` = 0 and PHASE = 3, for which no rule gives a step (R25, R34,
  93_implementation_defined.md U11 "stuck"). Safe: the state is unreachable and the machine stops. -/
  | stuckPhase3
  deriving DecidableEq, Repr

/-- Why an instruction is refused. -/
inductive Refusal where
  /-- Raised by no arm of `exec`: every instruction has a meaning. Safe. -/
  | notModelled (mnemonic : String)
  /-- Raised by TSEL_RESERVED_7: `tsel` = 111 selects no table and "a model refuses it" (R78, R202). Safe. -/
  | noTable
  /-- Raised by `step` when `inputs` asks to look at a unit on a word that is none of its format (R78, R79, R80). Safe:
  such a word is no input of the hardware. -/
  | badUnitWord (e : DecodeError)
  deriving DecidableEq, Repr

/-- The state right after the first reset edge (R230, R231): the five control registers as reset writes them, the data
registers at RESET_DRAW (R37; log entry 1), the host presenting nothing (log entry 2), no unit looked at (log entry 3). -/
def State.reset : State where
  l := Config.resetDraw.l
  r := Config.resetDraw.r
  c := Config.resetDraw.c
  d := Config.resetDraw.d
  rk := Config.resetDraw.rk
  dout := Config.resetDraw.dout
  phase := .idle
  rcnt := 0
  dec := Config.resetDraw.dec
  done := false
  keyValid := false
  err := 0
  inputs := []
  unitOut := none

end Sys2Proof.Machine
end

