-- ==== Sys2Proof/Machine/Flags.lean ====
section
/-! DEFINITION. The flags DEC, DONE, KEY_VALID (spec/10_state.md R27 to R29), the error codes (60_exceptions.md R201) and
the outputs, which are functions of the registers alone (R32, R33, 30_encoding.md R71). Arithmetic sets no condition
code (R30). -/

namespace Sys2Proof.Machine

/-- Write of DEC: 0 = encrypt, 1 = decrypt (R27). -/
def State.setDec (b : Bool) (s : State) : State := { s with dec := b }

/-- Write of DONE (R28). -/
def State.setDone (b : Bool) (s : State) : State := { s with done := b }

/-- Write of KEY_VALID (R29). -/
def State.setKeyValid (b : Bool) (s : State) : State := { s with keyValid := b }

/-- Code 1, InvalidMode (R201). -/
def errInvalidMode : BitVec 2 := 1

/-- Code 2, KeyNotLoaded (R201). -/
def errKeyNotLoaded : BitVec 2 := 2

/-- Code 3, InvalidTableConfiguration: reserved for the static check, written by no step (R201, R202). -/
def errInvalidTable : BitVec 2 := 3

/-- The code of each phase, as the STEP rows and R25 have it. -/
def Phase.code : Phase → BitVec 2
  | .idle => 0
  | .ks => 1
  | .rnd => 2
  | .phase3 => 3

/-- Output `busy`: 1 if PHASE != IDLE (R32). -/
def State.busy (s : State) : Bool := s.phase != .idle

/-- Output `cmd_ready`: 1 if PHASE == IDLE (R32). -/
def State.cmdReady (s : State) : Bool := s.phase == .idle

/-- Output `key_valid` = KEY_VALID (R71). -/
def State.keyValidOut (s : State) : Bool := s.keyValid

/-- Output `done` = DONE (R71). -/
def State.doneOut (s : State) : Bool := s.done

/-- Output `dout` = DOUT, at all times (R24, R71). -/
def State.doutOut (s : State) : Block := s.dout

/-- Output `err` = ERR (R71, R201). -/
def State.errOut (s : State) : BitVec 2 := s.err

/-- The read-only view STATUS[4:0]: `err` in 4:3, `done` in 2, `key_valid` in 1, `busy` in 0 (R33). -/
def State.status (s : State) : BitVec 5 :=
  s.errOut ++ BitVec.ofBool s.doneOut ++ BitVec.ofBool s.keyValidOut ++ BitVec.ofBool s.busy

end Sys2Proof.Machine
end

