-- ==== Sys2Proof/Machine/Operands.lean ====
section
/-! DEFINITION. The forms in which the core's operands are cut and joined: halves of a block (spec/44_block_cipher.md
R180), C‖D (41_key_schedule.md R133), S-box chunks and addresses (42_sbox.md R150, R151, 30_encoding.md R79), the
choice of a round key (44_block_cipher.md R182), and the 64-bit word that 8 bytes or 16 hexadecimal digits are
(20_memory.md R52). -/

namespace Sys2Proof.Machine

/-- `hi(v) = v[63:32]` (R180). -/
def hi (v : Block) : Half := v.extractLsb' 32 32

/-- `lo(v) = v[31:0]` (R180). -/
def lo (v : Block) : Half := v.extractLsb' 0 32

/-- `a ‖ b` with `a` high (R180). -/
def joinHalves (a b : Half) : Block := a ++ b

/-- `C ‖ D` with C in the high 28 bits (R22, R133). -/
def joinKeyHalves (c d : KeyHalf) : BitVec 56 := c ++ d

/-- Chunk `i` of the S-box input, `x[47-6i : 42-6i]`: chunk 0 is the most significant (R151). -/
def chunkOf (x : BitVec 48) (i : BitVec 3) : Chunk := x.extractLsb' (42 - 6 * i.toNat) 6

/-- The S-box row of a chunk, `c[5] ‖ c[0]` (R79, R150). -/
def sBoxRow (c : Chunk) : BitVec 2 := c.extractLsb' 5 1 ++ c.extractLsb' 0 1

/-- The S-box column of a chunk, `c[4:1]` (R79, R150). -/
def sBoxCol (c : Chunk) : BitVec 4 := c.extractLsb' 1 4

/-- The key or block that 8 raw bytes are, in file order: `b0` is the most significant byte (R52). -/
def wordOfBytes (b : Vector (BitVec 8) 8) : Block := b[0] ++ b[1] ++ b[2] ++ b[3] ++ b[4] ++ b[5] ++ b[6] ++ b[7]

/-- The key or block that 16 hexadecimal digits are, in text order: `h0` is the most significant digit (R52). -/
def wordOfHex (h : Vector (BitVec 4) 16) : Block :=
  h[0] ++ h[1] ++ h[2] ++ h[3] ++ h[4] ++ h[5] ++ h[6] ++ h[7] ++ h[8] ++ h[9] ++ h[10] ++ h[11] ++ h[12] ++ h[13] ++
    h[14] ++ h[15]

/-- KSEL: the number of the round key that round `i` uses, `i` to encrypt and `15 - i` to decrypt (R182). -/
def ksel (dec : Bool) (i : RoundIndex) : RoundIndex := if dec then 15 - i else i

end Sys2Proof.Machine
end

