-- ==== Sys2Proof/Machine/Ops.lean ====
section
/-! DEFINITION. The named operations: the bit selector SELECT (spec/40_permutation_engine.md R100), the writes of the
registers, the two ways the sequencer's position moves (10_state.md R25, R26), reset (70_reset_and_hazards.md R230) and
the entry of an error (60_exceptions.md R206). There is no return from an error: it leaves the core in IDLE with nothing
saved (R209). The core has no memory (20_memory.md R50). -/

namespace Sys2Proof.Machine

/-- SELECT(x, T, Win, Wout), in the form of R100's loop: for each entry of the table, from `T[0]` on, the result is
shifted left by one and the input bit at index `Win - T[n]` becomes its lowest bit. -/
def select {win : Nat} (wout : Nat) (t : PermTable) (x : BitVec win) : BitVec wout :=
  t.foldl (fun y p => y.shiftConcat (x.getLsbD (win - p))) 0

/-- Entry `i` of the round-key file (R23). -/
def State.readRk (i : RoundIndex) (s : State) : RoundKey := s.rk[i.toNat]

/-- Write of entry `i` of the round-key file (R23). -/
def State.writeRk (i : RoundIndex) (k : RoundKey) (s : State) : State := { s with rk := s.rk.set i.toNat k }

/-- Write of `L` and `R` (R21). -/
def State.writeHalves (l r : Half) (s : State) : State := { s with l := l, r := r }

/-- Write of `C` and `D` (R22). -/
def State.writeKeyHalves (c d : KeyHalf) (s : State) : State := { s with c := c, d := d }

/-- Write of `DOUT` (R24). -/
def State.writeDout (y : Block) (s : State) : State := { s with dout := y }

/-- RCNT <- 0; PHASE <- p: a command that starts a phase (R26, R140, R187). -/
def State.enterPhase (p : Phase) (s : State) : State := { s with phase := p, rcnt := 0 }

/-- RCNT <- (RCNT + 1) mod 16, and PHASE <- IDLE at the sixteenth step, which is known by RCNT == 15 (R26). -/
def State.advance (s : State) : State :=
  { s with rcnt := s.rcnt + 1, phase := if s.rcnt = 15 then .idle else s.phase }

/-- Error entry, the whole trap mechanism of the core: the code is recorded if none is, and no other register changes
(R206). -/
def State.raiseError (code : BitVec 2) (s : State) : State := { s with err := if s.err = 0 then code else s.err }

/-- Reset: the five control registers are written, the data registers are not (R230). -/
def State.resetEdge (s : State) : State :=
  { s with phase := .idle, rcnt := 0, keyValid := false, done := false, err := 0 }

/-- MODEL's own (log entry 3): the value on a combinational unit's output. No register changes (R101, R118, R162). -/
def State.showUnit (y : UnitOut) (s : State) : State := { s with unitOut := some y }

/-- MODEL's own (log entry 2): what the host drives from now on. -/
def State.setInputs (q : List Input) (s : State) : State := { s with inputs := q }

end Sys2Proof.Machine
end

