-- ==== Sys2Proof/Machine/Permutation.lean ====
section
/-! DEFINITION. PermutationEngine: the seven uses of SELECT (spec/40_permutation_engine.md R110 to R116) and the rows of
format TSEL (30_encoding.md R78). A use reads no register and writes none (R101); as a row by itself, its result stands
on the unit's output (log entry 3). -/

namespace Sys2Proof.Machine

/-- IP(x) = SELECT(x, IP, 64, 64) (R110). -/
def ip (x : Block) : Block := select 64 ipTable x

/-- FP(x) = SELECT(x, FP, 64, 64) (R111). -/
def fp (x : Block) : Block := select 64 fpTable x

/-- E(r) = SELECT(r, E, 32, 48) (R112). -/
def expand (r : Half) : BitVec 48 := select 48 eTable r

/-- P(s) = SELECT(s, P, 32, 32) (R113). -/
def permute (s : BitVec 32) : BitVec 32 := select 32 pTable s

/-- PC1C(k) = SELECT(k, PC-1[0..27], 64, 28) (R114). -/
def pc1c (k : MasterKey) : KeyHalf := select 28 pc1cTable k

/-- PC1D(k) = SELECT(k, PC-1[28..55], 64, 28) (R115). -/
def pc1d (k : MasterKey) : KeyHalf := select 28 pc1dTable k

/-- PC2(cd) = SELECT(cd, PC-2, 56, 48) (R116). -/
def pc2 (cd : BitVec 56) : RoundKey := select 48 pc2Table cd

/-- IP, tsel 000 (R110). -/
def execIp (x : BitVec 64) (s : State) : Host.Outcome State Fault Refusal := .next (s.showUnit (.w64 (ip x)))

/-- FP, tsel 001 (R111). -/
def execFp (x : BitVec 64) (s : State) : Host.Outcome State Fault Refusal := .next (s.showUnit (.w64 (fp x)))

/-- E, tsel 010 (R112). -/
def execE (r : BitVec 32) (s : State) : Host.Outcome State Fault Refusal := .next (s.showUnit (.w48 (expand r)))

/-- P, tsel 011 (R113). -/
def execP (x : BitVec 32) (s : State) : Host.Outcome State Fault Refusal := .next (s.showUnit (.w32 (permute x)))

/-- PC1C, tsel 100 (R114). -/
def execPc1c (k : BitVec 64) (s : State) : Host.Outcome State Fault Refusal := .next (s.showUnit (.w28 (pc1c k)))

/-- PC1D, tsel 101 (R115). -/
def execPc1d (k : BitVec 64) (s : State) : Host.Outcome State Fault Refusal := .next (s.showUnit (.w28 (pc1d k)))

/-- PC2, tsel 110 (R116). -/
def execPc2 (cd : BitVec 56) (s : State) : Host.Outcome State Fault Refusal := .next (s.showUnit (.w48 (pc2 cd)))

/-- TSEL_RESERVED_7, tsel 111: "a model refuses it" (R78, R202). -/
def execTselReserved7 (_s : State) : Host.Outcome State Fault Refusal := .refused .noTable

end Sys2Proof.Machine
end

