-- ==== Sys2Proof/Machine/SBox.lean ====
section
/-! DEFINITION. SBoxSubstitution: the eight look-ups (spec/42_sbox.md R150, R151) and the row of format SADDR
(30_encoding.md R79). -/

namespace Sys2Proof.Machine

/-- `S[i][row][col]`, the value at a 9-bit S-box address (R79, R150). Every address exists (R160). -/
def sBoxEntry (i : BitVec 3) (row : BitVec 2) (col : BitVec 4) : Nibble :=
  ((sBoxTables[i.toNat]'i.isLt)[row.toNat]'row.isLt)[col.toNat]'col.isLt

/-- SBOX(i, c): the look-up of a chunk (R150). -/
def sBox (i : BitVec 3) (c : Chunk) : Nibble := sBoxEntry i (sBoxRow c) (sBoxCol c)

/-- The output nibble of lane `i`: chunk `i` through box `i` (R151). -/
def sBoxLane (x : BitVec 48) (i : BitVec 3) : Nibble := sBox i (chunkOf x i)

/-- SUBSTITUTE(x): the eight nibbles in chunk order, `n_0` highest (R151). -/
def substitute (x : BitVec 48) : BitVec 32 :=
  sBoxLane x 0 ++ sBoxLane x 1 ++ sBoxLane x 2 ++ sBoxLane x 3 ++ sBoxLane x 4 ++ sBoxLane x 5 ++ sBoxLane x 6 ++
    sBoxLane x 7

/-- SBOX, the row of format SADDR (R79, R150). -/
def execSbox (i : BitVec 3) (row : BitVec 2) (col : BitVec 4) (s : State) : Host.Outcome State Fault Refusal :=
  .next (s.showUnit (.w4 (sBoxEntry i row col)))

end Sys2Proof.Machine
end

