-- ==== Sys2Proof/Machine/Feistel.lean ====
section
/-! DEFINITION. FeistelRound: the F-function and the update of the halves (spec/43_feistel.md R170, R173). Both are
combinational, and the same in both directions (R172, R174). -/

namespace Sys2Proof.Machine

/-- F(r, k): Expansion, exclusive or with the round key, SUBSTITUTE, Straight Permutation (R170). -/
def feistelF (r : Half) (k : RoundKey) : Half := permute (substitute (expand r ^^^ k))

/-- ROUND(L, R, k) = (R, L ^ F(R, k)) (R173). -/
def feistelRound (l r : Half) (k : RoundKey) : Half × Half := (r, l ^^^ feistelF r k)

end Sys2Proof.Machine
end

