-- ==== Sys2Proof/Machine/BlockCipher.lean ====
section
/-! DEFINITION. BlockCipher: CRYPT (spec/44_block_cipher.md R181), encrypt and decrypt (R183, R184), START (R187), the
RND step (R186) and the commands ENCRYPT, DECRYPT, NOP (R190 to R192). -/

namespace Sys2Proof.Machine

/-- One turn of CRYPT's loop: round `i` with the key KSEL gives it (R181, R182). -/
def cryptTurn (rk : RoundKeys) (dec : Bool) (lr : Half × Half) (i : RoundIndex) : Half × Half :=
  feistelRound lr.1 lr.2 rk[(ksel dec i).toNat]

/-- What the halves after the sixteenth round become: FP(R16 ‖ L16) (R181, R185). -/
def preOutput (l r : Half) : Block := joinHalves r l

/-- CRYPT(X, RK, dec) (R181). -/
def crypt (x : Block) (rk : RoundKeys) (dec : Bool) : Block :=
  let lr := Config.roundIndices.foldl (cryptTurn rk dec) (hi (ip x), lo (ip x))
  fp (preOutput lr.1 lr.2)

/-- encrypt(plaintext, roundKeys) (R183). -/
def encryptBlock (x : Block) (rk : RoundKeys) : Block := crypt x rk false

/-- decrypt(ciphertext, roundKeys) (R184). -/
def decryptBlock (x : Block) (rk : RoundKeys) : Block := crypt x rk true

/-- START(X, dec) (R187). -/
def State.start (x : Block) (dec : Bool) (s : State) : State :=
  (((s.writeHalves (hi (ip x)) (lo (ip x))).setDec dec).setDone false).enterPhase .rnd

/-- ENCRYPT: START(X, 0) if KEY_VALID, else raise KeyNotLoaded (R76, R190, R204). -/
def execEncrypt (x : Block) (s : State) : Host.Outcome State Fault Refusal :=
  if s.keyValid then .next (s.start x false) else .next (s.raiseError errKeyNotLoaded)

/-- DECRYPT: START(X, 1) if KEY_VALID, else raise KeyNotLoaded (R76, R191, R204). -/
def execDecrypt (x : Block) (s : State) : Host.Outcome State Fault Refusal :=
  if s.keyValid then .next (s.start x true) else .next (s.raiseError errKeyNotLoaded)

/-- NOP: no register changes (R192). -/
def execNop (_data : BitVec 64) (s : State) : Host.Outcome State Fault Refusal := .next s

/-- DOUT and DONE at the sixteenth RND step, from the new halves; else as they were (R186). -/
def State.finishBlock (i : RoundIndex) (l r : Half) (s : State) : State :=
  (s.writeDout (if i = 15 then fp (preOutput l r) else s.dout)).setDone (if i = 15 then true else s.done)

/-- RND_STEP (R186): with `i` = RCNT, one round with `RK[KSEL(DEC, i)]`, RCNT advances, and the last step writes DOUT
and DONE and ends the phase. That PHASE = RND selects this step is `work`'s affair (R25). -/
def execRndStep (s : State) : Host.Outcome State Fault Refusal :=
  let (l', r') := feistelRound s.l s.r (s.readRk (ksel s.dec s.rcnt))
  .next (((s.writeHalves l' r').finishBlock s.rcnt l' r').advance)

end Sys2Proof.Machine
end

