-- ==== Sys2Proof/Machine/KeySchedule.lean ====
section
/-! DEFINITION. KeySchedule: ROTL28, the shift schedule, KSROUND, generateRoundKeys (spec/41_key_schedule.md R130 to
R134), the rows of format ROT, LOADKEY (R140) and the KS step (R138). -/

namespace Sys2Proof.Machine

/-- ROTL28(x, n): rotation to the left within 28 bits (R130, its second formula; the width keeps the result to 28
bits). -/
def rotl28 (x : KeyHalf) (n : Nat) : KeyHalf := (x <<< n) ||| (x >>> (28 - n))

/-- shiftSchedule[i], 1 or 2 (R80, R131). -/
def shiftSchedule (i : RoundIndex) : Nat := shiftScheduleTable[i.toNat]

/-- KSROUND(i, C, D) = (C', D', RoundKey[i]): the key is made from the rotated halves (R133). -/
def ksRound (i : RoundIndex) (c d : KeyHalf) : KeyHalf × KeyHalf × RoundKey :=
  let c' := rotl28 c (shiftSchedule i)
  let d' := rotl28 d (shiftSchedule i)
  (c', d', pc2 (joinKeyHalves c' d'))

/-- One turn of generateRoundKeys's loop: the halves move on and entry `i` is written (R134). -/
def ksTurn (st : KeyHalf × KeyHalf × RoundKeys) (i : RoundIndex) : KeyHalf × KeyHalf × RoundKeys :=
  let (c', d', k) := ksRound i st.1 st.2.1
  (c', d', st.2.2.set i.toNat k)

/-- generateRoundKeys(K): rounds 0..15 from (C0, D0) = (PC1C(K), PC1D(K)) (R132, R134). The file it starts from is
immaterial, since every entry is written. -/
def generateRoundKeys (k : MasterKey) : RoundKeys :=
  (Config.roundIndices.foldl ksTurn (pc1c k, pc1d k, Vector.replicate 16 0)).2.2

/-- ROTL28_1: rotation by 1 (R80, R130). -/
def execRotl28By1 (x : BitVec 28) (s : State) : Host.Outcome State Fault Refusal :=
  .next (s.showUnit (.w28 (rotl28 x 1)))

/-- ROTL28_2: rotation by 2 (R80, R130). -/
def execRotl28By2 (x : BitVec 28) (s : State) : Host.Outcome State Fault Refusal :=
  .next (s.showUnit (.w28 (rotl28 x 2)))

/-- LOADKEY, at the edge of its acceptance (R140). K itself is kept nowhere. -/
def execLoadkey (k : MasterKey) (s : State) : Host.Outcome State Fault Refusal :=
  .next (((s.writeKeyHalves (pc1c k) (pc1d k)).setKeyValid false).enterPhase .ks)

/-- KEY_VALID <- 1 at the sixteenth KS step, else as it was (R138). -/
def State.finishKey (i : RoundIndex) (s : State) : State := s.setKeyValid (if i = 15 then true else s.keyValid)

/-- KS_STEP (R138): with `i` = RCNT, the halves move on, `RK[i]` is written, RCNT advances, and the last step ends the
phase and sets KEY_VALID. That PHASE = KS selects this step is `work`'s affair (R25). -/
def execKsStep (s : State) : Host.Outcome State Fault Refusal :=
  let (c', d', k) := ksRound s.rcnt s.c s.d
  .next ((((s.writeKeyHalves c' d').writeRk s.rcnt k).finishKey s.rcnt).advance)

end Sys2Proof.Machine
end

