-- ==== Sys2Proof/Machine/Reserved.lean ====
section
/-! DEFINITION. The reserved operation codes 100 to 111: each raises InvalidMode and changes nothing else
(spec/30_encoding.md R75, 60_exceptions.md R203, R206). -/

namespace Sys2Proof.Machine

/-- RESERVED_4, op 100 (R75, R203). -/
def execReserved4 (_data : BitVec 64) (s : State) : Host.Outcome State Fault Refusal :=
  .next (s.raiseError errInvalidMode)

/-- RESERVED_5, op 101 (R75, R203). -/
def execReserved5 (_data : BitVec 64) (s : State) : Host.Outcome State Fault Refusal :=
  .next (s.raiseError errInvalidMode)

/-- RESERVED_6, op 110 (R75, R203). -/
def execReserved6 (_data : BitVec 64) (s : State) : Host.Outcome State Fault Refusal :=
  .next (s.raiseError errInvalidMode)

/-- RESERVED_7, op 111 (R75, R203). -/
def execReserved7 (_data : BitVec 64) (s : State) : Host.Outcome State Fault Refusal :=
  .next (s.raiseError errInvalidMode)

end Sys2Proof.Machine
end

