-- ==== Sys2Proof/Machine/Dispatch.lean ====
section
/-! DEFINITION. One arm per row of spec/opcode_table.json. `exec i s` is the state after the row `i` is carried out on `s`:
for a command, execute(op, data) of 30_encoding.md R76 at its accepting edge. Which row a step carries out is `work`'s
affair (10_state.md R25). -/

namespace Sys2Proof.Machine

def exec (i : Instr) (s : State) : Host.Outcome State Fault Refusal :=
  match i with
  | .nop data => Sys2Proof.Machine.execNop data s
  | .loadkey data => Sys2Proof.Machine.execLoadkey data s
  | .encrypt data => Sys2Proof.Machine.execEncrypt data s
  | .decrypt data => Sys2Proof.Machine.execDecrypt data s
  | .reserved4 data => Sys2Proof.Machine.execReserved4 data s
  | .reserved5 data => Sys2Proof.Machine.execReserved5 data s
  | .reserved6 data => Sys2Proof.Machine.execReserved6 data s
  | .reserved7 data => Sys2Proof.Machine.execReserved7 data s
  | .ip x => Sys2Proof.Machine.execIp x s
  | .fp x => Sys2Proof.Machine.execFp x s
  | .e r => Sys2Proof.Machine.execE r s
  | .p x => Sys2Proof.Machine.execP x s
  | .pc1c k => Sys2Proof.Machine.execPc1c k s
  | .pc1d k => Sys2Proof.Machine.execPc1d k s
  | .pc2 cd => Sys2Proof.Machine.execPc2 cd s
  | .tselReserved7 => Sys2Proof.Machine.execTselReserved7 s
  | .sbox j row col => Sys2Proof.Machine.execSbox j row col s
  | .rotl28By1 x => Sys2Proof.Machine.execRotl28By1 x s
  | .rotl28By2 x => Sys2Proof.Machine.execRotl28By2 x s
  | .ksStep => Sys2Proof.Machine.execKsStep s
  | .rndStep => Sys2Proof.Machine.execRndStep s

end Sys2Proof.Machine
end

