-- ==== Sys2Proof/Decode.lean ====
section
/-! DEFINITION. The decoder and the encoder, from the encoding tables of spec/30_encoding.md (R72, R74, R78, R79, R80)
and the STEP rows of the opcode table (10_state.md R25). The decoder is total on every word of every format; a word that
is no instruction is rejected by name. -/

namespace Sys2Proof

/-- The operand of a row of format TSEL, SADDR, ROT or STEP: the bits from `lo` up, `width` of them, all bits above
being zero.  DESIGN CHOICE (log entry 4): the spec gives these rows a code and, apart from it, an operand; here the
operand's bits count on from the code's, as the table numbers a later word. -/
def operandAt (w : InstrWord) (lo width : Nat) : Except DecodeError (BitVec width) :=
  if w.toNat < 2 ^ (lo + width) then .ok (w.extractLsb' lo width) else .error .strayBits

/-- The opcode map: what the pair (`cmd_op`, `cmd_data`) commands, for all 8 values of `op` (R74, R75, R76). -/
def decodeOp (op : BitVec 3) (data : BitVec 64) : Instr :=
  match op with
  | 0b000#3 => .nop data
  | 0b001#3 => .loadkey data
  | 0b010#3 => .encrypt data
  | 0b011#3 => .decrypt data
  | 0b100#3 => .reserved4 data
  | 0b101#3 => .reserved5 data
  | 0b110#3 => .reserved6 data
  | _ => .reserved7 data

/-- Format CMD: `op` in bits 66:64, `data` in bits 63:0 (R72). Total (R75). -/
def decodeCmd (w : InstrWord) : Instr := decodeOp (w.extractLsb' 64 3) (w.extractLsb' 0 64)

/-- The table selector: what the code `tsel` selects, with its operand from the word (R78). -/
def decodeSelector (tsel : BitVec 3) (w : InstrWord) : Except DecodeError Instr :=
  match tsel with
  | 0b000#3 => (operandAt w 3 64).map .ip
  | 0b001#3 => (operandAt w 3 64).map .fp
  | 0b010#3 => (operandAt w 3 32).map .e
  | 0b011#3 => (operandAt w 3 32).map .p
  | 0b100#3 => (operandAt w 3 64).map .pc1c
  | 0b101#3 => (operandAt w 3 64).map .pc1d
  | 0b110#3 => (operandAt w 3 56).map .pc2
  | _ => (operandAt w 3 0).map fun _ => .tselReserved7

/-- Format TSEL: `tsel` in bits 2:0 (R78), the operand of the selected table from bit 3 up, Win bits wide. -/
def decodeTsel (w : InstrWord) : Except DecodeError Instr := decodeSelector (w.extractLsb' 0 3) w

/-- Format SADDR: `i ‖ row ‖ col` in bits 8:6, 5:4, 3:0 (R79). -/
def decodeSaddr (w : InstrWord) : Except DecodeError Instr :=
  (operandAt w 0 9).map fun a => .sbox (a.extractLsb' 6 3) (a.extractLsb' 4 2) (a.extractLsb' 0 4)

/-- Format ROT: bit 0 says whether the amount is 2 (R80), the operand stands in bits 28:1. -/
def decodeRot (w : InstrWord) : Except DecodeError Instr :=
  (operandAt w 1 28).map fun x => if w.getLsbD 0 then .rotl28By2 x else .rotl28By1 x

/-- Format STEP: the 2 bits of PHASE; 01 selects the KS step, 10 the RND step, 00 and 11 no step (R25). -/
def decodeStep (w : InstrWord) : Except DecodeError Instr :=
  match operandAt w 0 2 with
  | .ok 0b01#2 => .ok .ksStep
  | .ok 0b10#2 => .ok .rndStep
  | .ok _ => .error .noStep
  | .error e => .error e

/-- The instruction a word of a format is. -/
def decode (f : Format) (w : InstrWord) : Except DecodeError Instr :=
  match f with
  | .cmd => .ok (decodeCmd w)
  | .tsel => decodeTsel w
  | .saddr => decodeSaddr w
  | .rot => decodeRot w
  | .step => decodeStep w

/-- A command word CMDW = op ‖ data (R72). -/
def cmdWord (op : BitVec 3) (data : BitVec 64) : InstrWord := op ++ data

/-- A TSEL word: the code and, above it, the operand. -/
def tselWord {n : Nat} (tsel : BitVec 3) (x : BitVec n) : InstrWord := (x ++ tsel).setWidth 67

/-- The word of an instruction, from the same tables. -/
def encode : Instr → InstrWord
  | .nop data => cmdWord 0b000#3 data
  | .loadkey data => cmdWord 0b001#3 data
  | .encrypt data => cmdWord 0b010#3 data
  | .decrypt data => cmdWord 0b011#3 data
  | .reserved4 data => cmdWord 0b100#3 data
  | .reserved5 data => cmdWord 0b101#3 data
  | .reserved6 data => cmdWord 0b110#3 data
  | .reserved7 data => cmdWord 0b111#3 data
  | .ip x => tselWord 0b000#3 x
  | .fp x => tselWord 0b001#3 x
  | .e r => tselWord 0b010#3 r
  | .p s => tselWord 0b011#3 s
  | .pc1c k => tselWord 0b100#3 k
  | .pc1d k => tselWord 0b101#3 k
  | .pc2 cd => tselWord 0b110#3 cd
  | .tselReserved7 => 0b111#67
  | .sbox i row col => (i ++ row ++ col).setWidth 67
  | .rotl28By1 x => (x ++ 0b0#1).setWidth 67
  | .rotl28By2 x => (x ++ 0b1#1).setWidth 67
  | .ksStep => 0b01#67
  | .rndStep => 0b10#67

/-- How many bits the row's word has: the code's bits and the operand's. -/
def Instr.width : Instr → Nat
  | .nop _ | .loadkey _ | .encrypt _ | .decrypt _ => 67
  | .reserved4 _ | .reserved5 _ | .reserved6 _ | .reserved7 _ => 67
  | .ip _ | .fp _ | .pc1c _ | .pc1d _ => 67
  | .e _ | .p _ => 35
  | .pc2 _ => 59
  | .tselReserved7 => 3
  | .sbox _ _ _ => 9
  | .rotl28By1 _ | .rotl28By2 _ => 29
  | .ksStep | .rndStep => 2

/-- Which format a row of the opcode table with `nbits` bits has: 67, 3, 9, 1 and 2 are the widths the table gives; 72
and 16 are 67 and 9 in whole bytes. DESIGN CHOICE (log entry 5): 8, which is the byte that 3, 2 and 1 round up to, is
read as TSEL, the format with the most rows. -/
def formatOfBits (nbits : Nat) : Option Format :=
  match nbits with
  | 67 | 72 => some .cmd
  | 3 | 8 => some .tsel
  | 9 | 16 => some .saddr
  | 1 => some .rot
  | 2 => some .step
  | _ => none

/-- A row of the opcode table by its width and bits; every bit above is zero. -/
def decodeTableWord (nbits w : Nat) : Option Instr :=
  match formatOfBits nbits with
  | some f => if w < 2 ^ 67 then (decode f (BitVec.ofNat 67 w)).toOption else none
  | none => none

end Sys2Proof
end

