-- ==== Sys2Proof/Machine/Fetch.lean ====
section
/-! DEFINITION. What a step does before any instruction: the levels on the ports, which row the sequencer carries out at
an edge (spec/10_state.md R25, 30_encoding.md R73), and how the host's items are used up (R81, R82, R240). -/

namespace Sys2Proof.Machine

/-- What one step carries out. -/
inductive Work where
  | reset                    -- an edge with `rst` = 1 (R230)
  | stay                     -- an edge in IDLE with `cmd_valid` = 0 (R25)
  | run (i : Instr)          -- a row of the opcode table
  | stuck                    -- PHASE = 3 (R34)
  | reject (e : DecodeError) -- a unit looked at on a word that is none of its format
  deriving DecidableEq, Repr

/-- Ports on which the host presents nothing: `rst` = 0, `cmd_valid` = 0; `cmd_op` and `cmd_data` are then not read
(R73). -/
def Pins.quiet : Pins := { rst := false, cmdValid := false, cmdOp := 0, cmdData := 0 }

/-- Ports on which the host presents a command. -/
def Pins.present (op : BitVec 3) (data : BitVec 64) : Pins :=
  { rst := false, cmdValid := true, cmdOp := op, cmdData := data }

/-- What is left of the host's items once each WAIT that is over is taken off: WAIT lasts until `busy` = 0 (R82). -/
def State.pending (s : State) : List Input :=
  if s.busy then s.inputs else s.inputs.dropWhile (fun x => x == .wait)

/-- The levels on the ports at the coming edge. -/
def pinsOf : List Input → Pins
  | .edge p :: _ => p
  | .hold op data :: _ => Pins.present op data
  | .wait :: _ | .unit _ _ :: _ | [] => Pins.quiet

/-- The items left after a step. A command that is held, and a WAIT, stay while the core is busy: the command is not
accepted at that edge (R73, R240). -/
def inputsAfter (busy : Bool) : List Input → List Input
  | .edge _ :: q => q
  | .unit _ _ :: q => q
  | .hold op data :: q => if busy then .hold op data :: q else q
  | .wait :: q => if busy then .wait :: q else q
  | [] => []

/-- The state with the item of this step used up. -/
def State.afterInput (s : State) : State := s.setInputs (inputsAfter s.busy s.pending)

/-- The dispatch of R25 at an edge with these levels on the ports. -/
def workAtEdge (p : Pins) (ph : Phase) : Work :=
  if p.rst then .reset
  else match ph with
    | .idle => if p.cmdValid then .run (decodeOp p.cmdOp p.cmdData) else .stay
    | .ks => .run .ksStep
    | .rnd => .run .rndStep
    | .phase3 => .stuck

/-- What the next step carries out. -/
def work (s : State) : Work :=
  match s.pending with
  | .unit u w :: _ =>
    match decode u.toFormat w with
    | .ok i => .run i
    | .error e => .reject e
  | q => workAtEdge (pinsOf q) s.phase

/-- `s` with a word of a format where the next step takes it from (log entry 6): a command on the ports of a core in
IDLE, a unit's word as the next item, a step by the PHASE that selects it. A STEP word that selects no step leaves `s` as
it is. -/
def placeWord (s : State) (f : Format) (w : InstrWord) : State :=
  match f with
  | .cmd =>
    { s with phase := .idle
             inputs := .edge (Pins.present (w.extractLsb' 64 3) (w.extractLsb' 0 64)) :: s.inputs }
  | .tsel => s.setInputs (.unit .tsel w :: s.inputs)
  | .saddr => s.setInputs (.unit .saddr w :: s.inputs)
  | .rot => s.setInputs (.unit .rot w :: s.inputs)
  | .step =>
    match decodeStep w with
    | .ok .ksStep => { s with phase := .ks, inputs := .edge Pins.quiet :: s.inputs }
    | .ok .rndStep => { s with phase := .rnd, inputs := .edge Pins.quiet :: s.inputs }
    | _ => s

/-- `placeWord` for a row of the opcode table, by its width and bits. -/
def placeTableWord (s : State) (nbits w : Nat) : State :=
  match formatOfBits nbits with
  | some f => if w < 2 ^ 67 then placeWord s f (BitVec.ofNat 67 w) else s
  | none => s

end Sys2Proof.Machine
end

