-- ==== Sys2Proof/Machine/Step.lean ====
section
/-! DEFINITION. One step: one rising edge of `clk` (spec/10_state.md R25), or, for an item `Input.unit`, one look at a
combinational unit with no edge (log entry 3). -/

namespace Sys2Proof.Machine

/-- One step (R25). -/
def step (s : State) : Host.Outcome State Fault Refusal :=
  match work s with
  | .reset => .next s.afterInput.resetEdge
  | .stay => .next s.afterInput
  | .run i => exec i s.afterInput
  | .stuck => .fault .stuckPhase3
  | .reject e => .refused (.badUnitWord e)

/-- `s` with a row of the opcode table where the next step takes it from (log entry 6). -/
def State.withFetchWord (s : State) (nbits w : Nat) : State := placeTableWord s nbits w

end Sys2Proof.Machine
end

