-- ==== Sys2Proof/Safety.lean ====
section
/-! DEFINITION. What counts as a good state and a good run, in the terms statements use. -/

namespace Sys2Proof.Machine

/-- The relation SELECT's contract states between input and output: for every `n` the output bit at index `Wout-1-n` is
the input bit at index `Win - T[n]` (spec/40_permutation_engine.md R100). -/
def SelectsBy {win wout : Nat} (t : PermTable) (x : BitVec win) (y : BitVec wout) : Prop :=
  ∀ n, n < wout → y.getLsbD (wout - 1 - n) = x.getLsbD (win - t.getD n 0)

/-- `n` steps, stopping at the first fault or refusal: `Host.Core.run` of this machine, written over `step` itself
(Laws/Run.lean shows that the two are one). -/
def steps : Nat → State → Host.Outcome State Fault Refusal
  | 0, s => .next s
  | n + 1, s =>
    match step s with
    | .next t => steps n t
    | .fault r => .fault r
    | .refused r => .refused r

/-- An edge with `rst` = 1 comes next. -/
def State.atReset (s : State) : Prop := work s = .reset

/-- The host holds a command or presents nothing: no reset and no change of the ports until the core is idle again
(70_reset_and_hazards.md R240). -/
def HeldOrNothing (q : List Input) : Prop := q = [] ∨ ∃ op data rest, q = .hold op data :: rest

/-- What the control registers of a state reached since reset satisfy (10_state.md R34, and ERR = 3 is written by no
step, R31). -/
structure State.ControlInv (s : State) : Prop where
  reached : s.phase ≠ .phase3
  idle_rcnt : s.phase = .idle → s.rcnt = 0
  rnd_key : s.phase = .rnd → s.keyValid = true
  rnd_done : s.phase = .rnd → s.done = false
  ks_key : s.phase = .ks → s.keyValid = false
  err_code : s.err ≠ errInvalidTable

/-- The rounds run so far: the first RCNT round numbers. -/
def roundsBefore (i : RoundIndex) : List RoundIndex := Config.roundIndices.take i.toNat

/-- The halves after the rounds in `is` of CRYPT(X, RK, dec) (44_block_cipher.md R181). -/
def cryptHalves (x : Block) (rk : RoundKeys) (dec : Bool) (is : List RoundIndex) : Half × Half :=
  is.foldl (cryptTurn rk dec) (hi (ip x), lo (ip x))

/-- The halves and the file after the rounds in `is` of generateRoundKeys(K), on a file `rk` (41_key_schedule.md
R134). -/
def scheduleAfter (k : MasterKey) (rk : RoundKeys) (is : List RoundIndex) : KeyHalf × KeyHalf × RoundKeys :=
  is.foldl ksTurn (pc1c k, pc1d k, rk)

/-- What a host that watches the port remembers: the key of the last accepted LOADKEY, and of the last ENCRYPT or
DECRYPT accepted with KEY_VALID = 1 its block, its direction and the key then loaded (20_memory.md R60). -/
structure History where
  key : MasterKey
  block : Block
  dec : Bool
  blockKey : MasterKey

/-- The history after a step that carries out `w`, KEY_VALID being `kv` before it. -/
def History.after (h : History) (kv : Bool) (w : Work) : History :=
  match w with
  | .run (.loadkey k) => { h with key := k }
  | .run (.encrypt x) => if kv then { h with block := x, dec := false, blockKey := h.key } else h
  | .run (.decrypt x) => if kv then { h with block := x, dec := true, blockKey := h.key } else h
  | _ => h

/-- The registers hold what the history says they should: RK the keys of the last LOADKEY once KEY_VALID = 1, the
halves the rounds run so far, DOUT the result of the last block command while DONE = 1 (10_state.md R28, R29, R34). -/
structure State.ResultInv (h : History) (s : State) : Prop where
  control : s.ControlInv
  keys : s.keyValid = true → s.rk = generateRoundKeys h.key
  schedule : s.phase = .ks → ∃ rk, (s.c, s.d, s.rk) = scheduleAfter h.key rk (roundsBefore s.rcnt)
  job : s.phase = .rnd → h.blockKey = h.key ∧ s.dec = h.dec
  rounds : s.phase = .rnd → (s.l, s.r) = cryptHalves h.block s.rk s.dec (roundsBefore s.rcnt)
  result : s.done = true → s.dout = crypt h.block (generateRoundKeys h.blockKey) h.dec

/-- Two states with the same control registers (R20): PHASE, RCNT, KEY_VALID, DONE, ERR. -/
structure SameControl (s t : State) : Prop where
  phase : s.phase = t.phase
  rcnt : s.rcnt = t.rcnt
  keyValid : s.keyValid = t.keyValid
  done : s.done = t.done
  err : s.err = t.err

/-- The same input but for the key or block it carries; a unit is looked at on the same word. -/
inductive SameButData : Input → Input → Prop
  | edge (rst valid : Bool) (op : BitVec 3) (a b : BitVec 64) : SameButData (.edge ⟨rst, valid, op, a⟩) (.edge ⟨rst, valid, op, b⟩)
  | hold (op : BitVec 3) (a b : BitVec 64) : SameButData (.hold op a) (.hold op b)
  | wait : SameButData .wait .wait
  | unit (u : UnitFormat) (w : InstrWord) : SameButData (.unit u w) (.unit u w)

/-- The run of a host command sequence is over: the host has nothing left to present and PHASE = IDLE
(44_block_cipher.md R194). -/
def State.runOver (s : State) : Prop := s.inputs = [] ∧ s.phase = .idle

end Sys2Proof.Machine
end

