-- ==== Sys2Proof/WellFormed.lean ====
section
/-! DEFINITION. The static checks: an instruction that names no table, and the spec's own check of the constant tables,
InvalidTableConfiguration (40_permutation_engine.md R103, 60_exceptions.md R202), which is made once on the constants and
is no run-time path. -/

namespace Sys2Proof

/-- A well-formed instruction. The operand widths are in the types; what is left is that a table selector selects a
table: `tsel` = 111 does not (30_encoding.md R78). -/
def Instr.wf : Instr → Bool
  | .tselReserved7 => false
  | .nop _ | .loadkey _ | .encrypt _ | .decrypt _ => true
  | .reserved4 _ | .reserved5 _ | .reserved6 _ | .reserved7 _ => true
  | .ip _ | .fp _ | .e _ | .p _ | .pc1c _ | .pc1d _ | .pc2 _ => true
  | .sbox _ _ _ | .rotl28By1 _ | .rotl28By2 _ | .ksStep | .rndStep => true

/-- A table of `wout` entries, each in `1 .. win` (R100, R103): otherwise InvalidTableConfiguration. -/
def PermTable.valid (win wout : Nat) (t : PermTable) : Bool :=
  t.length == wout && t.all (fun p => decide (1 ≤ p) && decide (p ≤ win))

/-- An S-box each of whose rows holds each of the values 0..15 exactly once (42_sbox.md section 2). -/
def sBoxRowsPermute (b : Machine.SBoxTable) : Bool :=
  b.toList.all (fun row => row.toList.Nodup)

/-- A shift schedule of amounts 1 and 2 that sums to 28 (41_key_schedule.md R131). -/
def scheduleValid (t : Vector Nat 16) : Bool :=
  t.toList.all (fun n => n == 1 || n == 2) && t.toList.sum == 28

/-- The check of R103 over the core's own constants: the seven uses of the engine (R78), PC-1 as one table of 56
entries (R108), the shift schedule and the S-boxes. -/
def tablesValid : Bool :=
  Machine.ipTable.valid 64 64 && Machine.fpTable.valid 64 64 && Machine.eTable.valid 32 48 &&
  Machine.pTable.valid 32 32 && Machine.pc1Table.valid 64 56 && Machine.pc1cTable.valid 64 28 &&
  Machine.pc1dTable.valid 64 28 && Machine.pc2Table.valid 56 48 && scheduleValid Machine.shiftScheduleTable &&
  Machine.sBoxTables.toList.all sBoxRowsPermute

end Sys2Proof
end

