-- ==== Sys2Proof/Certificates/Slice0/Obligations.lean ====
section
/-! DEFINITION. The statements for the provers. Each docstring names the rule or the section of spec/ it formalises; where
a statement rests on a convention of the model or on an inference the spec marks as derived, the docstring says so. -/

open Sys2Proof Sys2Proof.Machine

/-! ### The permutation engine and the tables -/

/-- R100, SELECT: for every table that passes the check of R103, output index `Wout-1-n` is input index `Win - T[n]`. -/
def Obligations.SelectPicksTheTabledBits : Prop :=
  ∀ (win wout : Nat) (t : PermTable) (x : BitVec win), t.valid win wout = true → SelectsBy t x (select wout t x)

/-- R110 to R116 with R101: each of the seven TSEL rows runs on every operand, its result is the selection by its own
table, and no register changes. That the result stands in `unitOut` is the model's own (log entry 3). -/
def Obligations.EngineRowsGiveTheTabledSelection : Prop :=
  ∀ s : State,
    (∀ x : BitVec 64, ∃ y : BitVec 64, SelectsBy ipTable x y ∧ exec (.ip x) s = .next { s with unitOut := some (.w64 y) }) ∧
    (∀ x : BitVec 64, ∃ y : BitVec 64, SelectsBy fpTable x y ∧ exec (.fp x) s = .next { s with unitOut := some (.w64 y) }) ∧
    (∀ r : BitVec 32, ∃ y : BitVec 48, SelectsBy eTable r y ∧ exec (.e r) s = .next { s with unitOut := some (.w48 y) }) ∧
    (∀ x : BitVec 32, ∃ y : BitVec 32, SelectsBy pTable x y ∧ exec (.p x) s = .next { s with unitOut := some (.w32 y) }) ∧
    (∀ k : BitVec 64, ∃ y : BitVec 28,
      SelectsBy (pc1Table.take 28) k y ∧ exec (.pc1c k) s = .next { s with unitOut := some (.w28 y) }) ∧
    (∀ k : BitVec 64, ∃ y : BitVec 28,
      SelectsBy (pc1Table.drop 28) k y ∧ exec (.pc1d k) s = .next { s with unitOut := some (.w28 y) }) ∧
    (∀ cd : BitVec 56, ∃ y : BitVec 48,
      SelectsBy pc2Table cd y ∧ exec (.pc2 cd) s = .next { s with unitOut := some (.w48 y) })

/-- R101 (its consequences, which the spec marks derived): SELECT by a valid table keeps exclusive or, zero and all
ones. -/
def Obligations.SelectIsLinear : Prop :=
  ∀ (win wout : Nat) (t : PermTable) (x y : BitVec win), t.valid win wout = true →
    select wout t (x ^^^ y) = select wout t x ^^^ select wout t y ∧
    select wout t (0 : BitVec win) = 0 ∧
    select wout t (BitVec.allOnes win) = BitVec.allOnes wout

/-- R117: FP(IP(x)) = x and IP(FP(x)) = x for every 64-bit x. -/
def Obligations.FpUndoesIp : Prop := ∀ x : Block, fp (ip x) = x ∧ ip (fp x) = x

/-- R103, R119 (checked facts): the constants pass the table check; IP and FP are mutually inverse as tables; PC-1 reads
exactly the positions that 8 does not divide; PC-2 reads C for its first 24 entries and D for the rest. -/
def Obligations.TablesPassTheStaticCheck : Prop :=
  tablesValid = true ∧
  (∀ n : Fin 64, ipTable.getD (fpTable.getD n 0 - 1) 0 = n + 1 ∧ fpTable.getD (ipTable.getD n 0 - 1) 0 = n + 1) ∧
  (∀ p : Fin 65, p.val ≠ 0 → (p.val ∈ pc1Table ↔ p.val % 8 ≠ 0)) ∧
  (∀ n : Fin 48, (n.val < 24 → pc2Table.getD n 0 ≤ 28) ∧ (24 ≤ n.val → 29 ≤ pc2Table.getD n 0))

/-- R78, R202: the eight codes of `tsel`; 111 has no table and is refused; no edge ever selects a TSEL row. That the operand
stands directly above the code in a word is the model's choice (log entry 4). -/
def Obligations.TselCodesSelectTheirRows : Prop :=
  (∀ x : BitVec 64, decode .tsel (tselWord 0b000#3 x) = .ok (.ip x) ∧ decode .tsel (tselWord 0b001#3 x) = .ok (.fp x) ∧
    decode .tsel (tselWord 0b100#3 x) = .ok (.pc1c x) ∧ decode .tsel (tselWord 0b101#3 x) = .ok (.pc1d x)) ∧
  (∀ x : BitVec 32, decode .tsel (tselWord 0b010#3 x) = .ok (.e x) ∧ decode .tsel (tselWord 0b011#3 x) = .ok (.p x)) ∧
  (∀ x : BitVec 56, decode .tsel (tselWord 0b110#3 x) = .ok (.pc2 x)) ∧
  decode .tsel 0b111#67 = .ok .tselReserved7 ∧
  (∀ s : State, exec .tselReserved7 s = .refused .noTable) ∧
  (∀ (p : Pins) (ph : Phase) (i : Instr), workAtEdge p ph = .run i → i.format ≠ .tsel)

/-! ### The S-boxes -/

/-- R79, R150, R160: the SADDR row gives S[i][row][col] at every address, changing no register; the address of a chunk is
row = c[5] ‖ c[0], col = c[4:1]; the word is i ‖ row ‖ col. That the result stands in `unitOut` is the model's choice (log
entry 3). -/
def Obligations.SboxRowReadsTheAddressedEntry : Prop :=
  (∀ (i : BitVec 3) (row : BitVec 2) (col : BitVec 4) (s : State), ∃ y : BitVec 4,
    ((sBoxTables[i.toNat]?.bind (·[row.toNat]?)).bind (·[col.toNat]?)) = some y ∧
    exec (.sbox i row col) s = .next { s with unitOut := some (.w4 y) }) ∧
  (∀ (i : BitVec 3) (row : BitVec 2) (col : BitVec 4),
    decode .saddr ((i ++ row ++ col).setWidth 67) = .ok (.sbox i row col)) ∧
  (∀ (i : BitVec 3) (c : BitVec 6), ∃ (row : BitVec 2) (col : BitVec 4),
    row.toNat = 2 * (c.toNat >>> 5) + (c.toNat &&& 1) ∧ col.toNat = (c.toNat >>> 1) &&& 15 ∧
    sBox i c = sBoxEntry i row col)

/-- R151: output nibble `i` of SUBSTITUTE, counted from the top, is box `i` on input chunk `i`, counted from the top. -/
def Obligations.SubstituteWorksLaneByLane : Prop :=
  ∀ (x : BitVec 48) (i : BitVec 3),
    (substitute x).extractLsb' (28 - 4 * i.toNat) 4 = sBox i (x.extractLsb' (42 - 6 * i.toNat) 6)

/-! ### The key schedule -/

/-- R130: the two ROT rows run on every operand, ROTL28(x, n) = x[27-n:0] ‖ x[27:28-n] for n = 1, 2, and no register
changes. -/
def Obligations.RotationIsWithin28Bits : Prop :=
  ∀ (x : BitVec 28) (s : State),
    exec (.rotl28By1 x) s = .next { s with unitOut := some (.w28 (x.extractLsb' 0 27 ++ x.extractLsb' 27 1)) } ∧
    exec (.rotl28By2 x) s = .next { s with unitOut := some (.w28 (x.extractLsb' 0 26 ++ x.extractLsb' 26 2)) } ∧
    (∀ i : RoundIndex, shiftSchedule i = 1 ∨ shiftSchedule i = 2)

/-- R130 (its last law, which the spec marks derived): rotations compose modulo 28. -/
def Obligations.RotationsCompose : Prop :=
  ∀ (x : BitVec 28) (a b : Nat), a ≤ 27 → b ≤ 27 → rotl28 (rotl28 x a) b = rotl28 x ((a + b) % 28)

/-- R131, R80 (the totals and the mask are derived in the spec): the schedule, its sum 28, the total rotation after each
round, and the mask 0x7EFC with bit `i` set where the amount is 2. -/
def Obligations.ShiftScheduleAndItsMask : Prop :=
  Config.roundIndices.map shiftSchedule = [1, 1, 2, 2, 2, 2, 2, 2, 1, 2, 2, 2, 2, 2, 2, 1] ∧
  (Config.roundIndices.map shiftSchedule).sum = 28 ∧
  (List.range 16).map (fun n => ((Config.roundIndices.take (n + 1)).map shiftSchedule).sum) =
    [1, 2, 4, 6, 8, 10, 12, 14, 15, 17, 19, 21, 23, 25, 27, 28] ∧
  (∀ i : RoundIndex, shiftSchedule i = if (0x7EFC#16).getLsbD i.toNat then 2 else 1)

/-- R134 (its closed form, which the spec marks derived): RoundKey[i] is PC2 of both halves rotated by the total t(i). -/
def Obligations.RoundKeysInClosedForm : Prop :=
  ∀ (k : MasterKey) (i : RoundIndex),
    (generateRoundKeys k)[i.toNat] =
      pc2 (rotl28 (pc1c k) (((Config.roundIndices.take (i.toNat + 1)).map shiftSchedule).sum % 28) ++
        rotl28 (pc1d k) (((Config.roundIndices.take (i.toNat + 1)).map shiftSchedule).sum % 28))

/-- R135: after round 15 the halves are (C0, D0) again, whatever they were, and RoundKey[15] = PC2(C0 ‖ D0). -/
def Obligations.HalvesReturnAfterSixteenRounds : Prop :=
  (∀ (c d : KeyHalf) (rk : RoundKeys),
    (Config.roundIndices.foldl ksTurn (c, d, rk)).1 = c ∧ (Config.roundIndices.foldl ksTurn (c, d, rk)).2.1 = d) ∧
  (∀ k : MasterKey, (generateRoundKeys k)[15] = pc2 (pc1c k ++ pc1d k))

/-- R136 (which the spec marks derived from R108): the bits at DES positions 8, 16, .., 64 of a key have no effect, on the
round keys and on what LOADKEY does. -/
def Obligations.DroppedKeyBitsHaveNoEffect : Prop :=
  ∀ (k m : MasterKey), m &&& 0xFEFEFEFEFEFEFEFE#64 = 0 →
    generateRoundKeys (k ^^^ m) = generateRoundKeys k ∧
    (∀ s : State, exec (.loadkey (k ^^^ m)) s = exec (.loadkey k) s)

/-- R138: what one KS step writes, for every RCNT, and that it writes nothing else. -/
def Obligations.KsStepRunsOneRound : Prop :=
  ∀ s : State,
    exec .ksStep s = .next
      { s with
        c := rotl28 s.c (shiftSchedule s.rcnt)
        d := rotl28 s.d (shiftSchedule s.rcnt)
        rk := s.rk.set s.rcnt.toNat (pc2 (rotl28 s.c (shiftSchedule s.rcnt) ++ rotl28 s.d (shiftSchedule s.rcnt)))
        rcnt := s.rcnt + 1
        phase := if s.rcnt = 15 then .idle else s.phase
        keyValid := if s.rcnt = 15 then true else s.keyValid }

/-- R140 with R138: what LOADKEY writes at its acceptance, whatever KEY_VALID, DONE and ERR are; that the core is busy
with KEY_VALID = 0 after each of the edges 0 .. 15; and that the sixteenth KS step leaves RK = generateRoundKeys(K), C and
D as PC-1 loaded them, KEY_VALID = 1, IDLE, and every other register as it was before LOADKEY. The host holds a command or
presents nothing, as `inputs` writes it (log entry 2); other hosts are StepKeepsTheResultInvariant's affair. -/
def Obligations.LoadkeyRunsToCompletion : Prop :=
  ∀ (s : State) (k : MasterKey), HeldOrNothing s.inputs →
    ∃ t : State,
      t = { s with c := pc1c k, d := pc1d k, keyValid := false, rcnt := 0, phase := .ks } ∧
      exec (.loadkey k) s = .next t ∧
      (∀ n, n < 16 → ∃ u, steps n t = .next u ∧ u.busy = true ∧ u.keyValid = false) ∧
      steps 16 t = .next
        { s with c := pc1c k, d := pc1d k, rk := generateRoundKeys k, keyValid := true, rcnt := 0, phase := .idle }

/-! ### The Feistel round and the block cipher -/

/-- R52: a key or block is a big-endian word: byte `j` of 8, or hexadecimal digit `j` of 16, counted from the top. -/
def Obligations.KeysAndBlocksAreBigEndian : Prop :=
  (∀ (b : Vector (BitVec 8) 8) (j : Fin 8), (wordOfBytes b).extractLsb' (56 - 8 * j.val) 8 = b[j]) ∧
  (∀ (h : Vector (BitVec 4) 16) (j : Fin 16), (wordOfHex h).extractLsb' (60 - 4 * j.val) 4 = h[j])

/-- R170: F is Expansion, exclusive or, SUBSTITUTE, P; and it depends on `r` and `k` only through E(r) ^ k. -/
def Obligations.FIsItsFourStages : Prop :=
  (∀ (r : Half) (k : RoundKey), feistelF r k = permute (substitute (expand r ^^^ k))) ∧
  (∀ (r r' : Half) (k : RoundKey), feistelF r k = feistelF r' (k ^^^ expand r ^^^ expand r'))

/-- R173: ROUND(L, R, k) = (R, L ^ F(R, k)), and the same key undoes a round when the halves are exchanged before and
after. -/
def Obligations.RoundUndoesItself : Prop :=
  ∀ (l r : Half) (k : RoundKey),
    feistelRound l r k = (r, l ^^^ feistelF r k) ∧
    feistelRound (feistelRound l r k).2 (feistelRound l r k).1 k = (r, l)

/-- R182: KSEL(0, i) = i, KSEL(1, i) = 15 - i = i ^ (dec ‖ dec ‖ dec ‖ dec). -/
def Obligations.KselReadsForwardOrBackward : Prop :=
  ∀ i : RoundIndex,
    (ksel false i).toNat = i.toNat ∧ (ksel true i).toNat = 15 - i.toNat ∧
    ∀ dec : Bool, ksel dec i =
      i ^^^ (BitVec.ofBool dec ++ BitVec.ofBool dec ++ BitVec.ofBool dec ++ BitVec.ofBool dec)

/-- R181, R185: CRYPT splits IP(X), runs the sixteen rounds i = 0..15 with RK[KSEL(dec, i)], and applies FP to R16 ‖ L16. -/
def Obligations.CryptIsSixteenRoundsAndASwap : Prop :=
  ∀ (x : Block) (rk : RoundKeys) (dec : Bool), ∃ l r : Nat → Half,
    l 0 = (ip x).extractLsb' 32 32 ∧ r 0 = (ip x).extractLsb' 0 32 ∧
    (∀ (i : Nat) (h : i < 16),
      l (i + 1) = r i ∧ r (i + 1) = l i ^^^ feistelF (r i) (if dec then rk[15 - i] else rk[i])) ∧
    crypt x rk dec = fp (r 16 ++ l 16)

/-- R188 (the inversion the spec marks derived for any sixteen round keys): each direction undoes the other, so CRYPT is a
bijection for fixed keys. -/
def Obligations.EachDirectionUndoesTheOther : Prop :=
  ∀ (x : Block) (rk : RoundKeys),
    decryptBlock (encryptBlock x rk) rk = x ∧ encryptBlock (decryptBlock x rk) rk = x ∧
    ∀ dec : Bool, Function.Bijective (fun y => crypt y rk dec)

/-- R188 (direction symmetry, which the spec marks derived): with sixteen equal round keys both directions are one
function. -/
def Obligations.EqualRoundKeysMakeDirectionsAgree : Prop :=
  ∀ (x : Block) (rk : RoundKeys), (∀ i j : Fin 16, rk[i] = rk[j]) → crypt x rk false = crypt x rk true

/-- 95_test_vectors.md section 3.6 (the complement law, which the spec marks derived). -/
def Obligations.ComplementingKeyAndBlockComplementsTheResult : Prop :=
  ∀ (x : Block) (k : MasterKey) (dec : Bool),
    crypt (~~~x) (generateRoundKeys (~~~k)) dec = ~~~(crypt x (generateRoundKeys k) dec)

/-- R187, R190, R191 with R76: ENCRYPT and DECRYPT with KEY_VALID = 1 start the rounds, writing L, R, DEC, DONE, RCNT,
PHASE and nothing else. -/
def Obligations.BlockCommandStartsTheRounds : Prop :=
  ∀ (s : State) (x : Block), s.keyValid = true →
    exec (.encrypt x) s = .next
      { s with
        l := (ip x).extractLsb' 32 32, r := (ip x).extractLsb' 0 32, dec := false, done := false, rcnt := 0, phase := .rnd } ∧
    exec (.decrypt x) s = .next
      { s with
        l := (ip x).extractLsb' 32 32, r := (ip x).extractLsb' 0 32, dec := true, done := false, rcnt := 0, phase := .rnd }

/-- R186: what one RND step writes, for every RCNT and direction, and that it writes nothing else. -/
def Obligations.RndStepRunsOneRound : Prop :=
  ∀ s : State,
    exec .rndStep s = .next
      { s with
        l := s.r
        r := s.l ^^^ feistelF s.r (if s.dec then s.rk[(15 - s.rcnt).toNat] else s.rk[s.rcnt.toNat])
        rcnt := s.rcnt + 1
        phase := if s.rcnt = 15 then .idle else s.phase
        done := if s.rcnt = 15 then true else s.done
        dout :=
          if s.rcnt = 15 then
            fp ((s.l ^^^ feistelF s.r (if s.dec then s.rk[(15 - s.rcnt).toNat] else s.rk[s.rcnt.toNat])) ++ s.r)
          else s.dout }

/-- R190, R191 with R186, R187: an ENCRYPT or DECRYPT accepted with KEY_VALID = 1 keeps the core busy with DONE = 0 after
each of the edges 0 .. 15, and its sixteenth RND step leaves DOUT = CRYPT(X, RK, dec), DONE = 1, IDLE, L = L16, R = R16;
C, D, RK, KEY_VALID, ERR are as before. The host holds a command or presents nothing, as `inputs` writes it (log entry 2);
other hosts are StepKeepsTheResultInvariant's affair. -/
def Obligations.BlockCommandRunsToCompletion : Prop :=
  ∀ (s : State) (x : Block) (dec : Bool), HeldOrNothing s.inputs → s.keyValid = true →
    ∃ t : State,
      exec (if dec then .decrypt x else .encrypt x) s = .next t ∧
      (∀ n, n < 16 → ∃ u, steps n t = .next u ∧ u.busy = true ∧ u.done = false) ∧
      steps 16 t = .next
        { s with
          l := (cryptHalves x s.rk dec Config.roundIndices).1
          r := (cryptHalves x s.rk dec Config.roundIndices).2
          dec := dec, dout := crypt x s.rk dec, done := true, rcnt := 0, phase := .idle }

/-- R36, R37, R60, R64, R244, R246 (which the spec marks derived): a host that holds LOADKEY K and then a block command on
an idle core has, after 34 edges, the cipher of its block under its key, whatever the registers held before, and KEY_VALID
and DONE are 1. That the host's commands stand in `inputs` is the model's own (log entry 2). -/
def Obligations.KeyThenBlockGivesTheCipher : Prop :=
  ∀ (s : State) (k : MasterKey) (x : Block) (dec : Bool), s.phase = .idle →
    s.inputs = [.hold 0b001#3 k, .hold (if dec then 0b011#3 else 0b010#3) x] →
    ∃ t : State, steps 34 s = .next t ∧ t.dout = crypt x (generateRoundKeys k) dec ∧ t.done = true ∧
      t.keyValid = true ∧ t.err = s.err ∧ t.runOver

/-- R64, R189: the result of a block command is a function of its opcode, its block and RK alone: two cores with the same
loaded keys give the same result whatever they did before. -/
def Obligations.BlocksAreIndependent : Prop :=
  ∀ (s s' : State) (x : Block) (dec : Bool), s.keyValid = true → s'.keyValid = true → s.rk = s'.rk →
    HeldOrNothing s.inputs → HeldOrNothing s'.inputs →
    ∃ t t' u u' : State,
      exec (if dec then .decrypt x else .encrypt x) s = .next t ∧ exec (if dec then .decrypt x else .encrypt x) s' = .next t' ∧
      steps 16 t = .next u ∧ steps 16 t' = .next u' ∧ u.dout = u'.dout ∧ u.done = true ∧ u'.done = true

/-! ### Commands, decoding and dispatch -/

/-- R72, R74, R75: CMDW = op ‖ data, and the opcode map, on every operand. -/
def Obligations.OpcodeMapOfTheCommands : Prop :=
  ∀ data : BitVec 64,
    decode .cmd (0b000#3 ++ data) = .ok (.nop data) ∧ decode .cmd (0b001#3 ++ data) = .ok (.loadkey data) ∧
    decode .cmd (0b010#3 ++ data) = .ok (.encrypt data) ∧ decode .cmd (0b011#3 ++ data) = .ok (.decrypt data) ∧
    decode .cmd (0b100#3 ++ data) = .ok (.reserved4 data) ∧ decode .cmd (0b101#3 ++ data) = .ok (.reserved5 data) ∧
    decode .cmd (0b110#3 ++ data) = .ok (.reserved6 data) ∧ decode .cmd (0b111#3 ++ data) = .ok (.reserved7 data)

/-- Four command words as R81 and 95_test_vectors.md section 4 (programs 1 and 2) print them, and the codes of one row each
of TSEL, SADDR, ROT and STEP (R78, R79, R80, R25). That a code with nothing above it has the operand zero, and that the
format is read off the width, are the model's choices (log entries 4 and 5). -/
def Obligations.KnownWordsDecode : Prop :=
  decodeTableWord 67 0x1133457799BBCDFF1 = some (.loadkey 0x133457799BBCDFF1) ∧
  decodeTableWord 67 0x20123456789ABCDEF = some (.encrypt 0x0123456789ABCDEF) ∧
  decodeTableWord 67 0x385E813540F0AB405 = some (.decrypt 0x85E813540F0AB405) ∧
  decodeTableWord 67 0x5FFFFFFFFFFFFFFFF = some (.reserved5 0xFFFFFFFFFFFFFFFF) ∧
  decodeTableWord 3 6 = some (.pc2 0) ∧
  decodeTableWord 9 0b000001100 = some (.sbox 0 0 12) ∧
  decodeTableWord 1 1 = some (.rotl28By2 0) ∧
  decodeTableWord 2 2 = some .rndStep

/-- Decode and encode agree: every instruction of every format, with every operand at every value, is read back from its
word (R72, R74, R78, R79, R80; the operand's place in a TSEL or ROT word is log entry 4). -/
def Obligations.DecodeOfEncode : Prop := ∀ i : Instr, decode i.format (encode i) = .ok i

/-- Each word has one meaning: what the decoder reads from a word of a format is an instruction of that format whose own
word it is (R72, R75, R78, R79, R80; log entry 4). -/
def Obligations.EncodeOfDecode : Prop :=
  ∀ (f : Format) (w : InstrWord) (i : Instr), decode f w = .ok i → i.format = f ∧ encode i = w

/-- R25: a step that no unit is looked at in is one edge, and does exactly what the dispatch says: reset, or the decoded
command, or nothing, or the KS step, or the RND step; PHASE = 3 has no step. `pinsOf` and `afterInput` are the ports and
the host's remaining items (log entry 2). -/
def Obligations.StepRunsTheDispatchedRow : Prop :=
  ∀ s : State, (∀ u w q, s.pending ≠ .unit u w :: q) →
    ((pinsOf s.pending).rst = true → step s = .next s.afterInput.resetEdge) ∧
    ((pinsOf s.pending).rst = false →
      (s.phase = .idle → (pinsOf s.pending).cmdValid = true →
        ∀ i, decode .cmd ((pinsOf s.pending).cmdOp ++ (pinsOf s.pending).cmdData) = .ok i → step s = exec i s.afterInput) ∧
      (s.phase = .idle → (pinsOf s.pending).cmdValid = false → step s = .next s.afterInput) ∧
      (s.phase = .ks → step s = exec .ksStep s.afterInput) ∧
      (s.phase = .rnd → step s = exec .rndStep s.afterInput) ∧
      (s.phase = .phase3 → step s = .fault .stuckPhase3))

/-- R25 with the STEP rows of the opcode table: away from reset, the row an edge runs in a phase other than IDLE is the row
whose word is that phase's two bits; IDLE and PHASE = 3 are the words of no row. -/
def Obligations.StepRowsAreSelectedByPhase : Prop :=
  (∀ (p : Pins) (ph : Phase) (i : Instr), p.rst = false → ph ≠ .idle →
    (workAtEdge p ph = .run i ↔ decode .step (ph.code.setWidth 67) = .ok i)) ∧
  (∀ ph : Phase, ph = .idle ∨ ph = .phase3 → decode .step (ph.code.setWidth 67) = .error .noStep)

/-- The model's own (log entry 3): when a unit is looked at, the step runs the row its word decodes to, and nothing
else. -/
def Obligations.UnitStepRunsTheDecodedRow : Prop :=
  ∀ (s : State) (u : UnitFormat) (w : InstrWord) (q : List Input), s.inputs = .unit u w :: q →
    (∀ i, decode u.toFormat w = .ok i → step s = exec i { s with inputs := q }) ∧
    (∀ e, decode u.toFormat w = .error e → step s = .refused (.badUnitWord e))

/-- R81, R82, R240, R73 (as the model reads a command sequence, log entry 2): a held command is accepted in IDLE, once,
and stays presented while the core is busy; WAIT is over as soon as the core is idle. -/
def Obligations.HeldCommandWaitsForIdle : Prop :=
  ∀ (s : State) (op : BitVec 3) (data : BitVec 64) (q : List Input),
    (s.inputs = .hold op data :: q → s.phase = .idle →
      ∀ i, decode .cmd (op ++ data) = .ok i → step s = exec i { s with inputs := q }) ∧
    (s.inputs = .hold op data :: q → s.phase = .ks ∨ s.phase = .rnd → ∃ t, step s = .next t ∧ t.inputs = s.inputs) ∧
    (s.inputs = .wait :: q → s.phase = .idle → step s = step { s with inputs := q }) ∧
    (s.inputs = .wait :: q → s.phase = .ks ∨ s.phase = .rnd → ∃ t, step s = .next t ∧ t.inputs = s.inputs)

/-- R192: NOP changes no register on any operand, and presenting it in IDLE is an edge with `cmd_valid` = 0. -/
def Obligations.NopChangesNoRegister : Prop :=
  (∀ (data : BitVec 64) (s : State), exec (.nop data) s = .next s) ∧
  (∀ (s : State) (data data' : BitVec 64) (op : BitVec 3) (q : List Input), s.phase = .idle →
    step { s with inputs := .edge ⟨false, true, 0b000#3, data⟩ :: q } = .next { s with inputs := q } ∧
    step { s with inputs := .edge ⟨false, false, op, data'⟩ :: q } = .next { s with inputs := q })

/-- R75, R203: each reserved code runs on every operand; it records InvalidMode if no error is recorded, and changes
nothing else. -/
def Obligations.ReservedCodesRaiseInvalidMode : Prop :=
  ∀ (data : BitVec 64) (s : State),
    exec (.reserved4 data) s = .next { s with err := if s.err = 0 then 1 else s.err } ∧
    exec (.reserved5 data) s = .next { s with err := if s.err = 0 then 1 else s.err } ∧
    exec (.reserved6 data) s = .next { s with err := if s.err = 0 then 1 else s.err } ∧
    exec (.reserved7 data) s = .next { s with err := if s.err = 0 then 1 else s.err }

/-- R204: a block command with KEY_VALID = 0 records KeyNotLoaded if no error is recorded, and changes nothing else. -/
def Obligations.KeyNotLoadedChangesOnlyErr : Prop :=
  ∀ (x : Block) (s : State), s.keyValid = false →
    exec (.encrypt x) s = .next { s with err := if s.err = 0 then 2 else s.err } ∧
    exec (.decrypt x) s = .next { s with err := if s.err = 0 then 2 else s.err }

/-- R76: execute(op, data) for every `op`: the reserved half raises InvalidMode, a block command needs KEY_VALID, and no
command raises both errors. -/
def Obligations.NoCommandRaisesBothErrors : Prop :=
  ∀ (op : BitVec 3) (data : BitVec 64) (i : Instr) (s t : State),
    decode .cmd (op ++ data) = .ok i → s.err = 0 → exec i s = .next t →
    (t.err = 1 ↔ op.getLsbD 2 = true) ∧
    (t.err = 2 ↔ (op = 0b010#3 ∨ op = 0b011#3) ∧ s.keyValid = false) ∧
    (t.err = 0 ∨ t.err = 1 ∨ t.err = 2)

/-! ### Flags, errors and outputs -/

/-- R32, R33: `busy` and `cmd_ready` are functions of PHASE, STATUS is the view of the outputs, and it is 0b00000 after
reset. -/
def Obligations.OutputsAreViewsOfTheRegisters : Prop :=
  (∀ s : State,
    (s.busy = true ↔ s.phase ≠ .idle) ∧ s.cmdReady = !s.busy ∧
    s.status.getLsbD 0 = s.busy ∧ s.status.getLsbD 1 = s.keyValid ∧ s.status.getLsbD 2 = s.done ∧
    s.status.extractLsb' 3 2 = s.err) ∧
  State.reset.status = 0b00000#5

/-- R26: RCNT moves on by one, modulo 16, at every KS and RND step; it is 0 when a phase starts; the sixteenth step is the
one at which it is 15, and there the phase ends. -/
def Obligations.RcntCountsTheRounds : Prop :=
  (∀ (s t : State) (i : Instr), i = .ksStep ∨ i = .rndStep → exec i s = .next t →
    t.rcnt.toNat = (s.rcnt.toNat + 1) % 16 ∧ (s.rcnt = 15 → t.rcnt = 0 ∧ t.phase = .idle) ∧
    (s.rcnt ≠ 15 → t.phase = s.phase)) ∧
  (∀ (s t : State) (i : Instr), i.format = .cmd → exec i s = .next t →
    (t.phase = .ks ∨ t.phase = .rnd) → s.phase = .idle → t.rcnt = 0)

/-- R27: DEC is written only when ENCRYPT (0) or DECRYPT (1) is accepted with KEY_VALID = 1; every row but the RND step
does to the other registers what it does with any other value in DEC; and DEC is all in which the two commands differ. -/
def Obligations.DecIsTheDirection : Prop :=
  (∀ (s t : State), step s = .next t → t.dec ≠ s.dec →
    s.keyValid = true ∧ ((∃ x, work s = .run (.encrypt x) ∧ t.dec = false) ∨ (∃ x, work s = .run (.decrypt x) ∧ t.dec = true))) ∧
  (∀ (i : Instr) (s t : State) (b : Bool), i ≠ .rndStep → exec i s = .next t →
    ∃ b', exec i { s with dec := b } = .next { t with dec := b' }) ∧
  (∀ (x : Block) (s t : State), s.keyValid = true → exec (.encrypt x) s = .next t →
    t.dec = false ∧ exec (.decrypt x) s = .next { t with dec := true })

/-- R28: DONE is set only by the last RND step, at the edge that writes DOUT, and DOUT is written at no other edge; DONE is
cleared only by an accepted block command with KEY_VALID = 1 and by reset. -/
def Obligations.DoneAndDoutGoTogether : Prop :=
  ∀ (s t : State), step s = .next t →
    (t.dout ≠ s.dout → s.phase = .rnd ∧ s.rcnt = 15 ∧ t.done = true) ∧
    (s.done = false → t.done = true → s.phase = .rnd ∧ s.rcnt = 15 ∧ t.phase = .idle ∧ t.dout = fp (t.r ++ t.l)) ∧
    (s.done = true → t.done = false →
      s.atReset ∨ (s.keyValid = true ∧ ∃ x, work s = .run (.encrypt x) ∨ work s = .run (.decrypt x)))

/-- R31, R206, R207: ERR is written only while it is 0, only by a reserved code (1) or by a block command with KEY_VALID =
0 (2), and is cleared only by reset; the step that records an error changes nothing else. -/
def Obligations.FirstErrorIsKept : Prop :=
  ∀ (s t : State), step s = .next t → ¬ s.atReset →
    (s.err ≠ 0 → t.err = s.err) ∧
    (t.err ≠ s.err →
      s.err = 0 ∧ t = { s.afterInput with err := t.err } ∧ s.phase = .idle ∧
      ((t.err = 1 ∧ ∃ data, work s = .run (.reserved4 data) ∨ work s = .run (.reserved5 data) ∨
          work s = .run (.reserved6 data) ∨ work s = .run (.reserved7 data)) ∨
        (t.err = 2 ∧ s.keyValid = false ∧ ∃ x, work s = .run (.encrypt x) ∨ work s = .run (.decrypt x))))

/-- R208: a recorded error is no halt: every row does to the other registers what it does with any other value in ERR. -/
def Obligations.ErrorsDoNotDisturbLaterWork : Prop :=
  ∀ (i : Instr) (s t : State) (e : BitVec 2), exec i s = .next t →
    ∃ e', exec i { s with err := e } = .next { t with err := e' } ∧ (e ≠ 0 → e' = e)

/-! ### Reset -/

/-- R230: an edge with `rst` = 1 writes the five control registers and no data register, whatever the phase; and at every
other step ERR is not cleared, KS and RND are not left before RCNT = 15, and KEY_VALID drops only as a new key schedule
starts. -/
def Obligations.ResetWritesTheControlRegisters : Prop :=
  (∀ s : State, s.atReset → step s = .next
    { s with phase := .idle, rcnt := 0, keyValid := false, done := false, err := 0, inputs := s.afterInput.inputs }) ∧
  (∀ (s : State) (p : Pins) (q : List Input), s.inputs = .edge p :: q → p.rst = true →
    s.atReset ∧ s.afterInput.inputs = q) ∧
  (∀ s t : State, step s = .next t → ¬ s.atReset →
    (s.err ≠ 0 → t.err ≠ 0) ∧
    (s.phase = .ks ∨ s.phase = .rnd → s.rcnt ≠ 15 → t.phase = s.phase) ∧
    (s.keyValid = true → t.keyValid = false → t.phase = .ks ∧ t.rcnt = 0))

/-- R230, R231: the control registers after reset, and the outputs that follow. -/
def Obligations.ResetStateIsIdle : Prop :=
  State.reset.phase = .idle ∧ State.reset.rcnt = 0 ∧ State.reset.keyValid = false ∧ State.reset.done = false ∧
  State.reset.err = 0 ∧ State.reset.cmdReady = true ∧ State.reset.busy = false

/-- R232 (which the spec marks derived): a reset in phase KS or RND leaves the data registers as they stand and KEY_VALID
= 0, DONE = 0, and an ENCRYPT or DECRYPT after it is rejected with KeyNotLoaded. -/
def Obligations.ResetAbandonsTheOperation : Prop :=
  ∀ (s : State) (x : Block), s.atReset → s.phase = .ks ∨ s.phase = .rnd →
    ∃ t : State, step s = .next t ∧
      t.l = s.l ∧ t.r = s.r ∧ t.c = s.c ∧ t.d = s.d ∧ t.rk = s.rk ∧ t.dout = s.dout ∧ t.dec = s.dec ∧ t.done = false ∧
      exec (.encrypt x) t = .next { t with err := 2 } ∧ exec (.decrypt x) t = .next { t with err := 2 }

/-! ### The whole machine -/

/-- R34 (which the spec marks derived; ERR = 3 is R31): every step keeps the control registers' invariant, from every
state that meets it. -/
def Obligations.StepKeepsTheControlInvariant : Prop :=
  ∀ s t : State, s.ControlInv → step s = .next t → t.ControlInv

/-- R34: the state after reset meets the control registers' invariant. -/
def Obligations.ResetMeetsTheControlInvariant : Prop := State.reset.ControlInv

/-- R28, R29, R34, R60: with the history a host keeps of the commands accepted, every step keeps: RK is
generateRoundKeys of the last key once KEY_VALID = 1, the halves are those of the rounds run so far, and DOUT with DONE = 1
is the result of the last block command under the key then loaded. -/
def Obligations.StepKeepsTheResultInvariant : Prop :=
  ∀ (h : History) (s t : State), s.ResultInv h → step s = .next t → t.ResultInv (h.after s.keyValid (work s))

/-- R28, R29: the state after reset meets that invariant, for every history. -/
def Obligations.ResetMeetsTheResultInvariant : Prop := ∀ h : History, State.reset.ResultInv h

/-- R193 (which the spec marks derived): every movement of PHASE. A step that looks at a unit (log entry 3) is no edge and
moves it nowhere. -/
def Obligations.PhaseMovesAsListed : Prop :=
  ∀ s t : State, step s = .next t →
    (s.atReset → t.phase = .idle) ∧
    (¬ s.atReset →
      (s.phase = .idle → t.phase = .idle ∨
        (t.phase = .ks ∧ t.rcnt = 0 ∧ t.keyValid = false ∧ ∃ k, work s = .run (.loadkey k)) ∨
        (t.phase = .rnd ∧ t.rcnt = 0 ∧ t.done = false ∧ s.keyValid = true ∧
          ∃ x, work s = .run (.encrypt x) ∨ work s = .run (.decrypt x))) ∧
      (s.phase = .ks → work s = .run .ksStep →
        (s.rcnt ≠ 15 → t.phase = .ks) ∧ (s.rcnt = 15 → t.phase = .idle ∧ t.rcnt = 0 ∧ t.keyValid = true)) ∧
      (s.phase = .rnd → work s = .run .rndStep →
        (s.rcnt ≠ 15 → t.phase = .rnd) ∧ (s.rcnt = 15 → t.phase = .idle ∧ t.rcnt = 0 ∧ t.done = true)) ∧
      (work s ≠ .run .ksStep → work s ≠ .run .rndStep → s.phase ≠ .idle → t.phase = s.phase ∧ t.rcnt = s.rcnt))

/-- R20, its column 'written by', R21 to R24: which step may change each data register. -/
def Obligations.RegistersAreWrittenOnlyByTheirSteps : Prop :=
  ∀ s t : State, step s = .next t →
    (t.l ≠ s.l ∨ t.r ≠ s.r →
      work s = .run .rndStep ∨ (s.keyValid = true ∧ ∃ x, work s = .run (.encrypt x) ∨ work s = .run (.decrypt x))) ∧
    (t.c ≠ s.c ∨ t.d ≠ s.d → work s = .run .ksStep ∨ ∃ k, work s = .run (.loadkey k)) ∧
    (∀ j : RoundIndex, t.rk[j.toNat] ≠ s.rk[j.toNat] → work s = .run .ksStep ∧ j = s.rcnt) ∧
    (t.dout ≠ s.dout → work s = .run .rndStep ∧ s.rcnt = 15)

/-- R73, R56: at an edge at which no command is accepted, the command inputs are not looked at: any `cmd_op`, `cmd_data`,
and any `cmd_valid` unless IDLE without reset, give the same step. -/
def Obligations.UnacceptedCommandsAreNotLookedAt : Prop :=
  ∀ (s : State) (p p' : Pins) (q : List Input), p.rst = p'.rst →
    (p.rst = true ∨ s.phase ≠ .idle ∨ (p.cmdValid = false ∧ p'.cmdValid = false)) →
    step { s with inputs := .edge p :: q } = step { s with inputs := .edge p' :: q }

/-- R247, R200: how many edges a command takes and which errors it raises never depends on a key or a block: two cores
with the same control registers, driven alike but for the data, stay alike in their control registers. -/
def Obligations.TimingAndErrorsDoNotDependOnData : Prop :=
  ∀ s s' t : State, SameControl s s' → List.Forall₂ SameButData s.inputs s'.inputs → step s = .next t →
    ∃ t', step s' = .next t' ∧ SameControl t t' ∧ List.Forall₂ SameButData t.inputs t'.inputs

/-- R101, R118, R162: the rows of formats TSEL, SADDR and ROT change no register and nothing of what the host drives; only
the model's own `unitOut` shows their result (log entry 3), and no row reads it. -/
def Obligations.UnitRowsChangeNoRegister : Prop :=
  (∀ (i : Instr) (s t : State), i.format = .tsel ∨ i.format = .saddr ∨ i.format = .rot → exec i s = .next t →
    t = { s with unitOut := t.unitOut }) ∧
  (∀ (i : Instr) (s t : State) (y : Option UnitOut), exec i s = .next t →
    ∃ y', exec i { s with unitOut := y } = .next { t with unitOut := y' })
end

