-- ==== Sys2Proof/Laws/State.lean ====
section
/-! SUPPORT. One lemma per field per named update of State, each true by unfolding the update once. -/

namespace Sys2Proof.Machine

@[simp] theorem State.setDec_l (b : Bool) (s : State) : (s.setDec b).l = s.l := rfl
@[simp] theorem State.setDec_r (b : Bool) (s : State) : (s.setDec b).r = s.r := rfl
@[simp] theorem State.setDec_c (b : Bool) (s : State) : (s.setDec b).c = s.c := rfl
@[simp] theorem State.setDec_d (b : Bool) (s : State) : (s.setDec b).d = s.d := rfl
@[simp] theorem State.setDec_rk (b : Bool) (s : State) : (s.setDec b).rk = s.rk := rfl
@[simp] theorem State.setDec_dout (b : Bool) (s : State) : (s.setDec b).dout = s.dout := rfl
@[simp] theorem State.setDec_phase (b : Bool) (s : State) : (s.setDec b).phase = s.phase := rfl
@[simp] theorem State.setDec_rcnt (b : Bool) (s : State) : (s.setDec b).rcnt = s.rcnt := rfl
@[simp] theorem State.setDec_dec (b : Bool) (s : State) : (s.setDec b).dec = b := rfl
@[simp] theorem State.setDec_done (b : Bool) (s : State) : (s.setDec b).done = s.done := rfl
@[simp] theorem State.setDec_keyValid (b : Bool) (s : State) : (s.setDec b).keyValid = s.keyValid := rfl
@[simp] theorem State.setDec_err (b : Bool) (s : State) : (s.setDec b).err = s.err := rfl
@[simp] theorem State.setDec_inputs (b : Bool) (s : State) : (s.setDec b).inputs = s.inputs := rfl
@[simp] theorem State.setDec_unitOut (b : Bool) (s : State) : (s.setDec b).unitOut = s.unitOut := rfl

@[simp] theorem State.setDone_l (b : Bool) (s : State) : (s.setDone b).l = s.l := rfl
@[simp] theorem State.setDone_r (b : Bool) (s : State) : (s.setDone b).r = s.r := rfl
@[simp] theorem State.setDone_c (b : Bool) (s : State) : (s.setDone b).c = s.c := rfl
@[simp] theorem State.setDone_d (b : Bool) (s : State) : (s.setDone b).d = s.d := rfl
@[simp] theorem State.setDone_rk (b : Bool) (s : State) : (s.setDone b).rk = s.rk := rfl
@[simp] theorem State.setDone_dout (b : Bool) (s : State) : (s.setDone b).dout = s.dout := rfl
@[simp] theorem State.setDone_phase (b : Bool) (s : State) : (s.setDone b).phase = s.phase := rfl
@[simp] theorem State.setDone_rcnt (b : Bool) (s : State) : (s.setDone b).rcnt = s.rcnt := rfl
@[simp] theorem State.setDone_dec (b : Bool) (s : State) : (s.setDone b).dec = s.dec := rfl
@[simp] theorem State.setDone_done (b : Bool) (s : State) : (s.setDone b).done = b := rfl
@[simp] theorem State.setDone_keyValid (b : Bool) (s : State) : (s.setDone b).keyValid = s.keyValid := rfl
@[simp] theorem State.setDone_err (b : Bool) (s : State) : (s.setDone b).err = s.err := rfl
@[simp] theorem State.setDone_inputs (b : Bool) (s : State) : (s.setDone b).inputs = s.inputs := rfl
@[simp] theorem State.setDone_unitOut (b : Bool) (s : State) : (s.setDone b).unitOut = s.unitOut := rfl

@[simp] theorem State.setKeyValid_l (b : Bool) (s : State) : (s.setKeyValid b).l = s.l := rfl
@[simp] theorem State.setKeyValid_r (b : Bool) (s : State) : (s.setKeyValid b).r = s.r := rfl
@[simp] theorem State.setKeyValid_c (b : Bool) (s : State) : (s.setKeyValid b).c = s.c := rfl
@[simp] theorem State.setKeyValid_d (b : Bool) (s : State) : (s.setKeyValid b).d = s.d := rfl
@[simp] theorem State.setKeyValid_rk (b : Bool) (s : State) : (s.setKeyValid b).rk = s.rk := rfl
@[simp] theorem State.setKeyValid_dout (b : Bool) (s : State) : (s.setKeyValid b).dout = s.dout := rfl
@[simp] theorem State.setKeyValid_phase (b : Bool) (s : State) : (s.setKeyValid b).phase = s.phase := rfl
@[simp] theorem State.setKeyValid_rcnt (b : Bool) (s : State) : (s.setKeyValid b).rcnt = s.rcnt := rfl
@[simp] theorem State.setKeyValid_dec (b : Bool) (s : State) : (s.setKeyValid b).dec = s.dec := rfl
@[simp] theorem State.setKeyValid_done (b : Bool) (s : State) : (s.setKeyValid b).done = s.done := rfl
@[simp] theorem State.setKeyValid_keyValid (b : Bool) (s : State) : (s.setKeyValid b).keyValid = b := rfl
@[simp] theorem State.setKeyValid_err (b : Bool) (s : State) : (s.setKeyValid b).err = s.err := rfl
@[simp] theorem State.setKeyValid_inputs (b : Bool) (s : State) : (s.setKeyValid b).inputs = s.inputs := rfl
@[simp] theorem State.setKeyValid_unitOut (b : Bool) (s : State) : (s.setKeyValid b).unitOut = s.unitOut := rfl

@[simp] theorem State.writeHalves_l (l r : Half) (s : State) : (s.writeHalves l r).l = l := rfl
@[simp] theorem State.writeHalves_r (l r : Half) (s : State) : (s.writeHalves l r).r = r := rfl
@[simp] theorem State.writeHalves_c (l r : Half) (s : State) : (s.writeHalves l r).c = s.c := rfl
@[simp] theorem State.writeHalves_d (l r : Half) (s : State) : (s.writeHalves l r).d = s.d := rfl
@[simp] theorem State.writeHalves_rk (l r : Half) (s : State) : (s.writeHalves l r).rk = s.rk := rfl
@[simp] theorem State.writeHalves_dout (l r : Half) (s : State) : (s.writeHalves l r).dout = s.dout := rfl
@[simp] theorem State.writeHalves_phase (l r : Half) (s : State) : (s.writeHalves l r).phase = s.phase := rfl
@[simp] theorem State.writeHalves_rcnt (l r : Half) (s : State) : (s.writeHalves l r).rcnt = s.rcnt := rfl
@[simp] theorem State.writeHalves_dec (l r : Half) (s : State) : (s.writeHalves l r).dec = s.dec := rfl
@[simp] theorem State.writeHalves_done (l r : Half) (s : State) : (s.writeHalves l r).done = s.done := rfl
@[simp] theorem State.writeHalves_keyValid (l r : Half) (s : State) : (s.writeHalves l r).keyValid = s.keyValid := rfl
@[simp] theorem State.writeHalves_err (l r : Half) (s : State) : (s.writeHalves l r).err = s.err := rfl
@[simp] theorem State.writeHalves_inputs (l r : Half) (s : State) : (s.writeHalves l r).inputs = s.inputs := rfl
@[simp] theorem State.writeHalves_unitOut (l r : Half) (s : State) : (s.writeHalves l r).unitOut = s.unitOut := rfl

@[simp] theorem State.writeKeyHalves_l (c d : KeyHalf) (s : State) : (s.writeKeyHalves c d).l = s.l := rfl
@[simp] theorem State.writeKeyHalves_r (c d : KeyHalf) (s : State) : (s.writeKeyHalves c d).r = s.r := rfl
@[simp] theorem State.writeKeyHalves_c (c d : KeyHalf) (s : State) : (s.writeKeyHalves c d).c = c := rfl
@[simp] theorem State.writeKeyHalves_d (c d : KeyHalf) (s : State) : (s.writeKeyHalves c d).d = d := rfl
@[simp] theorem State.writeKeyHalves_rk (c d : KeyHalf) (s : State) : (s.writeKeyHalves c d).rk = s.rk := rfl
@[simp] theorem State.writeKeyHalves_dout (c d : KeyHalf) (s : State) : (s.writeKeyHalves c d).dout = s.dout := rfl
@[simp] theorem State.writeKeyHalves_phase (c d : KeyHalf) (s : State) : (s.writeKeyHalves c d).phase = s.phase := rfl
@[simp] theorem State.writeKeyHalves_rcnt (c d : KeyHalf) (s : State) : (s.writeKeyHalves c d).rcnt = s.rcnt := rfl
@[simp] theorem State.writeKeyHalves_dec (c d : KeyHalf) (s : State) : (s.writeKeyHalves c d).dec = s.dec := rfl
@[simp] theorem State.writeKeyHalves_done (c d : KeyHalf) (s : State) : (s.writeKeyHalves c d).done = s.done := rfl
@[simp] theorem State.writeKeyHalves_keyValid (c d : KeyHalf) (s : State) : (s.writeKeyHalves c d).keyValid = s.keyValid := rfl
@[simp] theorem State.writeKeyHalves_err (c d : KeyHalf) (s : State) : (s.writeKeyHalves c d).err = s.err := rfl
@[simp] theorem State.writeKeyHalves_inputs (c d : KeyHalf) (s : State) : (s.writeKeyHalves c d).inputs = s.inputs := rfl
@[simp] theorem State.writeKeyHalves_unitOut (c d : KeyHalf) (s : State) : (s.writeKeyHalves c d).unitOut = s.unitOut := rfl

@[simp] theorem State.writeRk_l (i : RoundIndex) (k : RoundKey) (s : State) : (s.writeRk i k).l = s.l := rfl
@[simp] theorem State.writeRk_r (i : RoundIndex) (k : RoundKey) (s : State) : (s.writeRk i k).r = s.r := rfl
@[simp] theorem State.writeRk_c (i : RoundIndex) (k : RoundKey) (s : State) : (s.writeRk i k).c = s.c := rfl
@[simp] theorem State.writeRk_d (i : RoundIndex) (k : RoundKey) (s : State) : (s.writeRk i k).d = s.d := rfl
@[simp] theorem State.writeRk_rk (i : RoundIndex) (k : RoundKey) (s : State) : (s.writeRk i k).rk = s.rk.set i.toNat k := rfl
@[simp] theorem State.writeRk_dout (i : RoundIndex) (k : RoundKey) (s : State) : (s.writeRk i k).dout = s.dout := rfl
@[simp] theorem State.writeRk_phase (i : RoundIndex) (k : RoundKey) (s : State) : (s.writeRk i k).phase = s.phase := rfl
@[simp] theorem State.writeRk_rcnt (i : RoundIndex) (k : RoundKey) (s : State) : (s.writeRk i k).rcnt = s.rcnt := rfl
@[simp] theorem State.writeRk_dec (i : RoundIndex) (k : RoundKey) (s : State) : (s.writeRk i k).dec = s.dec := rfl
@[simp] theorem State.writeRk_done (i : RoundIndex) (k : RoundKey) (s : State) : (s.writeRk i k).done = s.done := rfl
@[simp] theorem State.writeRk_keyValid (i : RoundIndex) (k : RoundKey) (s : State) : (s.writeRk i k).keyValid = s.keyValid := rfl
@[simp] theorem State.writeRk_err (i : RoundIndex) (k : RoundKey) (s : State) : (s.writeRk i k).err = s.err := rfl
@[simp] theorem State.writeRk_inputs (i : RoundIndex) (k : RoundKey) (s : State) : (s.writeRk i k).inputs = s.inputs := rfl
@[simp] theorem State.writeRk_unitOut (i : RoundIndex) (k : RoundKey) (s : State) : (s.writeRk i k).unitOut = s.unitOut := rfl

@[simp] theorem State.writeDout_l (y : Block) (s : State) : (s.writeDout y).l = s.l := rfl
@[simp] theorem State.writeDout_r (y : Block) (s : State) : (s.writeDout y).r = s.r := rfl
@[simp] theorem State.writeDout_c (y : Block) (s : State) : (s.writeDout y).c = s.c := rfl
@[simp] theorem State.writeDout_d (y : Block) (s : State) : (s.writeDout y).d = s.d := rfl
@[simp] theorem State.writeDout_rk (y : Block) (s : State) : (s.writeDout y).rk = s.rk := rfl
@[simp] theorem State.writeDout_dout (y : Block) (s : State) : (s.writeDout y).dout = y := rfl
@[simp] theorem State.writeDout_phase (y : Block) (s : State) : (s.writeDout y).phase = s.phase := rfl
@[simp] theorem State.writeDout_rcnt (y : Block) (s : State) : (s.writeDout y).rcnt = s.rcnt := rfl
@[simp] theorem State.writeDout_dec (y : Block) (s : State) : (s.writeDout y).dec = s.dec := rfl
@[simp] theorem State.writeDout_done (y : Block) (s : State) : (s.writeDout y).done = s.done := rfl
@[simp] theorem State.writeDout_keyValid (y : Block) (s : State) : (s.writeDout y).keyValid = s.keyValid := rfl
@[simp] theorem State.writeDout_err (y : Block) (s : State) : (s.writeDout y).err = s.err := rfl
@[simp] theorem State.writeDout_inputs (y : Block) (s : State) : (s.writeDout y).inputs = s.inputs := rfl
@[simp] theorem State.writeDout_unitOut (y : Block) (s : State) : (s.writeDout y).unitOut = s.unitOut := rfl

@[simp] theorem State.enterPhase_l (p : Phase) (s : State) : (s.enterPhase p).l = s.l := rfl
@[simp] theorem State.enterPhase_r (p : Phase) (s : State) : (s.enterPhase p).r = s.r := rfl
@[simp] theorem State.enterPhase_c (p : Phase) (s : State) : (s.enterPhase p).c = s.c := rfl
@[simp] theorem State.enterPhase_d (p : Phase) (s : State) : (s.enterPhase p).d = s.d := rfl
@[simp] theorem State.enterPhase_rk (p : Phase) (s : State) : (s.enterPhase p).rk = s.rk := rfl
@[simp] theorem State.enterPhase_dout (p : Phase) (s : State) : (s.enterPhase p).dout = s.dout := rfl
@[simp] theorem State.enterPhase_phase (p : Phase) (s : State) : (s.enterPhase p).phase = p := rfl
@[simp] theorem State.enterPhase_rcnt (p : Phase) (s : State) : (s.enterPhase p).rcnt = 0 := rfl
@[simp] theorem State.enterPhase_dec (p : Phase) (s : State) : (s.enterPhase p).dec = s.dec := rfl
@[simp] theorem State.enterPhase_done (p : Phase) (s : State) : (s.enterPhase p).done = s.done := rfl
@[simp] theorem State.enterPhase_keyValid (p : Phase) (s : State) : (s.enterPhase p).keyValid = s.keyValid := rfl
@[simp] theorem State.enterPhase_err (p : Phase) (s : State) : (s.enterPhase p).err = s.err := rfl
@[simp] theorem State.enterPhase_inputs (p : Phase) (s : State) : (s.enterPhase p).inputs = s.inputs := rfl
@[simp] theorem State.enterPhase_unitOut (p : Phase) (s : State) : (s.enterPhase p).unitOut = s.unitOut := rfl

@[simp] theorem State.advance_l (s : State) : (s.advance).l = s.l := rfl
@[simp] theorem State.advance_r (s : State) : (s.advance).r = s.r := rfl
@[simp] theorem State.advance_c (s : State) : (s.advance).c = s.c := rfl
@[simp] theorem State.advance_d (s : State) : (s.advance).d = s.d := rfl
@[simp] theorem State.advance_rk (s : State) : (s.advance).rk = s.rk := rfl
@[simp] theorem State.advance_dout (s : State) : (s.advance).dout = s.dout := rfl
@[simp] theorem State.advance_phase (s : State) : (s.advance).phase = if s.rcnt = 15 then .idle else s.phase := rfl
@[simp] theorem State.advance_rcnt (s : State) : (s.advance).rcnt = s.rcnt + 1 := rfl
@[simp] theorem State.advance_dec (s : State) : (s.advance).dec = s.dec := rfl
@[simp] theorem State.advance_done (s : State) : (s.advance).done = s.done := rfl
@[simp] theorem State.advance_keyValid (s : State) : (s.advance).keyValid = s.keyValid := rfl
@[simp] theorem State.advance_err (s : State) : (s.advance).err = s.err := rfl
@[simp] theorem State.advance_inputs (s : State) : (s.advance).inputs = s.inputs := rfl
@[simp] theorem State.advance_unitOut (s : State) : (s.advance).unitOut = s.unitOut := rfl

@[simp] theorem State.raiseError_l (code : BitVec 2) (s : State) : (s.raiseError code).l = s.l := rfl
@[simp] theorem State.raiseError_r (code : BitVec 2) (s : State) : (s.raiseError code).r = s.r := rfl
@[simp] theorem State.raiseError_c (code : BitVec 2) (s : State) : (s.raiseError code).c = s.c := rfl
@[simp] theorem State.raiseError_d (code : BitVec 2) (s : State) : (s.raiseError code).d = s.d := rfl
@[simp] theorem State.raiseError_rk (code : BitVec 2) (s : State) : (s.raiseError code).rk = s.rk := rfl
@[simp] theorem State.raiseError_dout (code : BitVec 2) (s : State) : (s.raiseError code).dout = s.dout := rfl
@[simp] theorem State.raiseError_phase (code : BitVec 2) (s : State) : (s.raiseError code).phase = s.phase := rfl
@[simp] theorem State.raiseError_rcnt (code : BitVec 2) (s : State) : (s.raiseError code).rcnt = s.rcnt := rfl
@[simp] theorem State.raiseError_dec (code : BitVec 2) (s : State) : (s.raiseError code).dec = s.dec := rfl
@[simp] theorem State.raiseError_done (code : BitVec 2) (s : State) : (s.raiseError code).done = s.done := rfl
@[simp] theorem State.raiseError_keyValid (code : BitVec 2) (s : State) : (s.raiseError code).keyValid = s.keyValid := rfl
@[simp] theorem State.raiseError_err (code : BitVec 2) (s : State) : (s.raiseError code).err = if s.err = 0 then code else s.err := rfl
@[simp] theorem State.raiseError_inputs (code : BitVec 2) (s : State) : (s.raiseError code).inputs = s.inputs := rfl
@[simp] theorem State.raiseError_unitOut (code : BitVec 2) (s : State) : (s.raiseError code).unitOut = s.unitOut := rfl

@[simp] theorem State.resetEdge_l (s : State) : (s.resetEdge).l = s.l := rfl
@[simp] theorem State.resetEdge_r (s : State) : (s.resetEdge).r = s.r := rfl
@[simp] theorem State.resetEdge_c (s : State) : (s.resetEdge).c = s.c := rfl
@[simp] theorem State.resetEdge_d (s : State) : (s.resetEdge).d = s.d := rfl
@[simp] theorem State.resetEdge_rk (s : State) : (s.resetEdge).rk = s.rk := rfl
@[simp] theorem State.resetEdge_dout (s : State) : (s.resetEdge).dout = s.dout := rfl
@[simp] theorem State.resetEdge_phase (s : State) : (s.resetEdge).phase = .idle := rfl
@[simp] theorem State.resetEdge_rcnt (s : State) : (s.resetEdge).rcnt = 0 := rfl
@[simp] theorem State.resetEdge_dec (s : State) : (s.resetEdge).dec = s.dec := rfl
@[simp] theorem State.resetEdge_done (s : State) : (s.resetEdge).done = false := rfl
@[simp] theorem State.resetEdge_keyValid (s : State) : (s.resetEdge).keyValid = false := rfl
@[simp] theorem State.resetEdge_err (s : State) : (s.resetEdge).err = 0 := rfl
@[simp] theorem State.resetEdge_inputs (s : State) : (s.resetEdge).inputs = s.inputs := rfl
@[simp] theorem State.resetEdge_unitOut (s : State) : (s.resetEdge).unitOut = s.unitOut := rfl

@[simp] theorem State.showUnit_l (y : UnitOut) (s : State) : (s.showUnit y).l = s.l := rfl
@[simp] theorem State.showUnit_r (y : UnitOut) (s : State) : (s.showUnit y).r = s.r := rfl
@[simp] theorem State.showUnit_c (y : UnitOut) (s : State) : (s.showUnit y).c = s.c := rfl
@[simp] theorem State.showUnit_d (y : UnitOut) (s : State) : (s.showUnit y).d = s.d := rfl
@[simp] theorem State.showUnit_rk (y : UnitOut) (s : State) : (s.showUnit y).rk = s.rk := rfl
@[simp] theorem State.showUnit_dout (y : UnitOut) (s : State) : (s.showUnit y).dout = s.dout := rfl
@[simp] theorem State.showUnit_phase (y : UnitOut) (s : State) : (s.showUnit y).phase = s.phase := rfl
@[simp] theorem State.showUnit_rcnt (y : UnitOut) (s : State) : (s.showUnit y).rcnt = s.rcnt := rfl
@[simp] theorem State.showUnit_dec (y : UnitOut) (s : State) : (s.showUnit y).dec = s.dec := rfl
@[simp] theorem State.showUnit_done (y : UnitOut) (s : State) : (s.showUnit y).done = s.done := rfl
@[simp] theorem State.showUnit_keyValid (y : UnitOut) (s : State) : (s.showUnit y).keyValid = s.keyValid := rfl
@[simp] theorem State.showUnit_err (y : UnitOut) (s : State) : (s.showUnit y).err = s.err := rfl
@[simp] theorem State.showUnit_inputs (y : UnitOut) (s : State) : (s.showUnit y).inputs = s.inputs := rfl
@[simp] theorem State.showUnit_unitOut (y : UnitOut) (s : State) : (s.showUnit y).unitOut = some y := rfl

@[simp] theorem State.setInputs_l (q : List Input) (s : State) : (s.setInputs q).l = s.l := rfl
@[simp] theorem State.setInputs_r (q : List Input) (s : State) : (s.setInputs q).r = s.r := rfl
@[simp] theorem State.setInputs_c (q : List Input) (s : State) : (s.setInputs q).c = s.c := rfl
@[simp] theorem State.setInputs_d (q : List Input) (s : State) : (s.setInputs q).d = s.d := rfl
@[simp] theorem State.setInputs_rk (q : List Input) (s : State) : (s.setInputs q).rk = s.rk := rfl
@[simp] theorem State.setInputs_dout (q : List Input) (s : State) : (s.setInputs q).dout = s.dout := rfl
@[simp] theorem State.setInputs_phase (q : List Input) (s : State) : (s.setInputs q).phase = s.phase := rfl
@[simp] theorem State.setInputs_rcnt (q : List Input) (s : State) : (s.setInputs q).rcnt = s.rcnt := rfl
@[simp] theorem State.setInputs_dec (q : List Input) (s : State) : (s.setInputs q).dec = s.dec := rfl
@[simp] theorem State.setInputs_done (q : List Input) (s : State) : (s.setInputs q).done = s.done := rfl
@[simp] theorem State.setInputs_keyValid (q : List Input) (s : State) : (s.setInputs q).keyValid = s.keyValid := rfl
@[simp] theorem State.setInputs_err (q : List Input) (s : State) : (s.setInputs q).err = s.err := rfl
@[simp] theorem State.setInputs_inputs (q : List Input) (s : State) : (s.setInputs q).inputs = q := rfl
@[simp] theorem State.setInputs_unitOut (q : List Input) (s : State) : (s.setInputs q).unitOut = s.unitOut := rfl

@[simp] theorem State.afterInput_l (s : State) : (s.afterInput).l = s.l := rfl
@[simp] theorem State.afterInput_r (s : State) : (s.afterInput).r = s.r := rfl
@[simp] theorem State.afterInput_c (s : State) : (s.afterInput).c = s.c := rfl
@[simp] theorem State.afterInput_d (s : State) : (s.afterInput).d = s.d := rfl
@[simp] theorem State.afterInput_rk (s : State) : (s.afterInput).rk = s.rk := rfl
@[simp] theorem State.afterInput_dout (s : State) : (s.afterInput).dout = s.dout := rfl
@[simp] theorem State.afterInput_phase (s : State) : (s.afterInput).phase = s.phase := rfl
@[simp] theorem State.afterInput_rcnt (s : State) : (s.afterInput).rcnt = s.rcnt := rfl
@[simp] theorem State.afterInput_dec (s : State) : (s.afterInput).dec = s.dec := rfl
@[simp] theorem State.afterInput_done (s : State) : (s.afterInput).done = s.done := rfl
@[simp] theorem State.afterInput_keyValid (s : State) : (s.afterInput).keyValid = s.keyValid := rfl
@[simp] theorem State.afterInput_err (s : State) : (s.afterInput).err = s.err := rfl
@[simp] theorem State.afterInput_inputs (s : State) : (s.afterInput).inputs = inputsAfter s.busy s.pending := rfl
@[simp] theorem State.afterInput_unitOut (s : State) : (s.afterInput).unitOut = s.unitOut := rfl

@[simp] theorem State.finishKey_l (i : RoundIndex) (s : State) : (s.finishKey i).l = s.l := rfl
@[simp] theorem State.finishKey_r (i : RoundIndex) (s : State) : (s.finishKey i).r = s.r := rfl
@[simp] theorem State.finishKey_c (i : RoundIndex) (s : State) : (s.finishKey i).c = s.c := rfl
@[simp] theorem State.finishKey_d (i : RoundIndex) (s : State) : (s.finishKey i).d = s.d := rfl
@[simp] theorem State.finishKey_rk (i : RoundIndex) (s : State) : (s.finishKey i).rk = s.rk := rfl
@[simp] theorem State.finishKey_dout (i : RoundIndex) (s : State) : (s.finishKey i).dout = s.dout := rfl
@[simp] theorem State.finishKey_phase (i : RoundIndex) (s : State) : (s.finishKey i).phase = s.phase := rfl
@[simp] theorem State.finishKey_rcnt (i : RoundIndex) (s : State) : (s.finishKey i).rcnt = s.rcnt := rfl
@[simp] theorem State.finishKey_dec (i : RoundIndex) (s : State) : (s.finishKey i).dec = s.dec := rfl
@[simp] theorem State.finishKey_done (i : RoundIndex) (s : State) : (s.finishKey i).done = s.done := rfl
@[simp] theorem State.finishKey_keyValid (i : RoundIndex) (s : State) : (s.finishKey i).keyValid = if i = 15 then true else s.keyValid := rfl
@[simp] theorem State.finishKey_err (i : RoundIndex) (s : State) : (s.finishKey i).err = s.err := rfl
@[simp] theorem State.finishKey_inputs (i : RoundIndex) (s : State) : (s.finishKey i).inputs = s.inputs := rfl
@[simp] theorem State.finishKey_unitOut (i : RoundIndex) (s : State) : (s.finishKey i).unitOut = s.unitOut := rfl

@[simp] theorem State.finishBlock_l (i : RoundIndex) (l r : Half) (s : State) : (s.finishBlock i l r).l = s.l := rfl
@[simp] theorem State.finishBlock_r (i : RoundIndex) (l r : Half) (s : State) : (s.finishBlock i l r).r = s.r := rfl
@[simp] theorem State.finishBlock_c (i : RoundIndex) (l r : Half) (s : State) : (s.finishBlock i l r).c = s.c := rfl
@[simp] theorem State.finishBlock_d (i : RoundIndex) (l r : Half) (s : State) : (s.finishBlock i l r).d = s.d := rfl
@[simp] theorem State.finishBlock_rk (i : RoundIndex) (l r : Half) (s : State) : (s.finishBlock i l r).rk = s.rk := rfl
@[simp] theorem State.finishBlock_dout (i : RoundIndex) (l r : Half) (s : State) : (s.finishBlock i l r).dout = if i = 15 then fp (preOutput l r) else s.dout := rfl
@[simp] theorem State.finishBlock_phase (i : RoundIndex) (l r : Half) (s : State) : (s.finishBlock i l r).phase = s.phase := rfl
@[simp] theorem State.finishBlock_rcnt (i : RoundIndex) (l r : Half) (s : State) : (s.finishBlock i l r).rcnt = s.rcnt := rfl
@[simp] theorem State.finishBlock_dec (i : RoundIndex) (l r : Half) (s : State) : (s.finishBlock i l r).dec = s.dec := rfl
@[simp] theorem State.finishBlock_done (i : RoundIndex) (l r : Half) (s : State) : (s.finishBlock i l r).done = if i = 15 then true else s.done := rfl
@[simp] theorem State.finishBlock_keyValid (i : RoundIndex) (l r : Half) (s : State) : (s.finishBlock i l r).keyValid = s.keyValid := rfl
@[simp] theorem State.finishBlock_err (i : RoundIndex) (l r : Half) (s : State) : (s.finishBlock i l r).err = s.err := rfl
@[simp] theorem State.finishBlock_inputs (i : RoundIndex) (l r : Half) (s : State) : (s.finishBlock i l r).inputs = s.inputs := rfl
@[simp] theorem State.finishBlock_unitOut (i : RoundIndex) (l r : Half) (s : State) : (s.finishBlock i l r).unitOut = s.unitOut := rfl

@[simp] theorem State.start_l (x : Block) (b : Bool) (s : State) : (s.start x b).l = hi (ip x) := rfl
@[simp] theorem State.start_r (x : Block) (b : Bool) (s : State) : (s.start x b).r = lo (ip x) := rfl
@[simp] theorem State.start_c (x : Block) (b : Bool) (s : State) : (s.start x b).c = s.c := rfl
@[simp] theorem State.start_d (x : Block) (b : Bool) (s : State) : (s.start x b).d = s.d := rfl
@[simp] theorem State.start_rk (x : Block) (b : Bool) (s : State) : (s.start x b).rk = s.rk := rfl
@[simp] theorem State.start_dout (x : Block) (b : Bool) (s : State) : (s.start x b).dout = s.dout := rfl
@[simp] theorem State.start_phase (x : Block) (b : Bool) (s : State) : (s.start x b).phase = .rnd := rfl
@[simp] theorem State.start_rcnt (x : Block) (b : Bool) (s : State) : (s.start x b).rcnt = 0 := rfl
@[simp] theorem State.start_dec (x : Block) (b : Bool) (s : State) : (s.start x b).dec = b := rfl
@[simp] theorem State.start_done (x : Block) (b : Bool) (s : State) : (s.start x b).done = false := rfl
@[simp] theorem State.start_keyValid (x : Block) (b : Bool) (s : State) : (s.start x b).keyValid = s.keyValid := rfl
@[simp] theorem State.start_err (x : Block) (b : Bool) (s : State) : (s.start x b).err = s.err := rfl
@[simp] theorem State.start_inputs (x : Block) (b : Bool) (s : State) : (s.start x b).inputs = s.inputs := rfl
@[simp] theorem State.start_unitOut (x : Block) (b : Bool) (s : State) : (s.start x b).unitOut = s.unitOut := rfl

end Sys2Proof.Machine
end

