-- ==== Sys2Proof/Laws/Ops.lean ====
section
/-! SUPPORT. What each shared operation on values does, said once. -/

namespace Sys2Proof.Machine

@[simp] theorem select_nil {win : Nat} (wout : Nat) (x : BitVec win) : select wout [] x = 0 := rfl

/-- The loop of R100, one entry on: the result is shifted left by one and the entry's bit comes in below. -/
theorem select_append_one {win : Nat} (wout : Nat) (t : PermTable) (p : Nat) (x : BitVec win) :
    select wout (t ++ [p]) x = (select wout t x).shiftConcat (x.getLsbD (win - p)) := by
  simp [select]

/-- `a ‖ b` bit by bit (R180). -/
theorem joinHalves_getLsbD (a b : Half) (i : Nat) :
    (joinHalves a b).getLsbD i = if i < 32 then b.getLsbD i else a.getLsbD (i - 32) :=
  BitVec.getLsbD_append

/-- `C ‖ D` bit by bit (R133). -/
theorem joinKeyHalves_getLsbD (c d : KeyHalf) (i : Nat) :
    (joinKeyHalves c d).getLsbD i = if i < 28 then d.getLsbD i else c.getLsbD (i - 28) :=
  BitVec.getLsbD_append

theorem hi_getLsbD (v : Block) (i : Nat) (h : i < 32) : (hi v).getLsbD i = v.getLsbD (32 + i) := by
  simp [hi, h]

theorem lo_getLsbD (v : Block) (i : Nat) (h : i < 32) : (lo v).getLsbD i = v.getLsbD i := by
  simp [lo, h]

@[simp] theorem hi_joinHalves (a b : Half) : hi (joinHalves a b) = a := by
  apply BitVec.eq_of_getLsbD_eq
  intro i h
  rw [hi_getLsbD _ _ h, joinHalves_getLsbD, if_neg (by omega), Nat.add_sub_cancel_left]

@[simp] theorem lo_joinHalves (a b : Half) : lo (joinHalves a b) = b := by
  apply BitVec.eq_of_getLsbD_eq
  intro i h
  rw [lo_getLsbD _ _ h, joinHalves_getLsbD, if_pos h]

/-- R180: a block is its two halves joined. -/
@[simp] theorem joinHalves_hi_lo (v : Block) : joinHalves (hi v) (lo v) = v := by
  apply BitVec.eq_of_getLsbD_eq
  intro i h
  rw [joinHalves_getLsbD]
  split
  · next h' => rw [lo_getLsbD _ _ h']
  · next h' => rw [hi_getLsbD _ _ (by omega), show 32 + (i - 32) = i by omega]

/-- ROTL28 within 28 bits, bit by bit (R130): the bit at `j` comes from `n` places below, cyclically. -/
theorem rotl28_getLsbD (x : KeyHalf) (n j : Nat) (hn : n ≤ 28) (hj : j < 28) :
    (rotl28 x n).getLsbD j = x.getLsbD (if j < n then 28 - n + j else j - n) := by
  simp only [rotl28, BitVec.getLsbD_or, BitVec.getLsbD_shiftLeft, BitVec.getLsbD_ushiftRight, hj, decide_true,
    Bool.true_and]
  split
  · next h => simp [h]
  · next h => simp [h, BitVec.getLsbD_of_ge x (28 - n + j) (by omega)]

@[simp] theorem rotl28_zero (x : KeyHalf) : rotl28 x 0 = x := by
  apply BitVec.eq_of_getLsbD_eq
  intro i h
  simp [rotl28_getLsbD x 0 i (by omega) h]

/-- R80: the amount of a round is 1 or 2. -/
theorem shiftSchedule_one_or_two (i : RoundIndex) : shiftSchedule i = 1 ∨ shiftSchedule i = 2 := by
  revert i
  decide

/-- The error entry keeps a recorded error (R206). -/
theorem raiseError_of_err {s : State} (code : BitVec 2) (h : s.err ≠ 0) : s.raiseError code = s := by
  cases s
  simp_all [State.raiseError]

end Sys2Proof.Machine
end

