-- ==== Sys2Proof/Laws/PerInstr.lean ====
section
/-! SUPPORT. Facts about every instruction as syntax, one lemma per constructor. Family EncodeWidth: the word of an
instruction has no bit above the row's own length. -/

namespace Sys2Proof.Laws.EncodeWidth

open Sys2Proof

/-- The word of `i` fits the row's length (spec/30_encoding.md R72, R78 to R80). -/
def Statement (i : Instr) : Prop := (encode i).toNat < 2 ^ i.width

/-- A value widened to the common word keeps its size. -/
theorem setWidth_lt {n : Nat} (x : BitVec n) : (x.setWidth 67).toNat < 2 ^ n := by
  rw [BitVec.toNat_setWidth]
  exact Nat.lt_of_le_of_lt (Nat.mod_le _ _) x.isLt

theorem nop (data : BitVec 64) : Statement (.nop data) := BitVec.isLt _

theorem loadkey (data : BitVec 64) : Statement (.loadkey data) := BitVec.isLt _

theorem encrypt (data : BitVec 64) : Statement (.encrypt data) := BitVec.isLt _

theorem decrypt (data : BitVec 64) : Statement (.decrypt data) := BitVec.isLt _

theorem reserved4 (data : BitVec 64) : Statement (.reserved4 data) := BitVec.isLt _

theorem reserved5 (data : BitVec 64) : Statement (.reserved5 data) := BitVec.isLt _

theorem reserved6 (data : BitVec 64) : Statement (.reserved6 data) := BitVec.isLt _

theorem reserved7 (data : BitVec 64) : Statement (.reserved7 data) := BitVec.isLt _

theorem ip (x : BitVec 64) : Statement (.ip x) := BitVec.isLt _

theorem fp (x : BitVec 64) : Statement (.fp x) := BitVec.isLt _

theorem e (r : BitVec 32) : Statement (.e r) := setWidth_lt _

theorem p (x : BitVec 32) : Statement (.p x) := setWidth_lt _

theorem pc1c (k : BitVec 64) : Statement (.pc1c k) := BitVec.isLt _

theorem pc1d (k : BitVec 64) : Statement (.pc1d k) := BitVec.isLt _

theorem pc2 (cd : BitVec 56) : Statement (.pc2 cd) := setWidth_lt _

theorem tselReserved7 : Statement .tselReserved7 := by
  unfold Statement
  decide

theorem sbox (i : BitVec 3) (row : BitVec 2) (col : BitVec 4) : Statement (.sbox i row col) := setWidth_lt _

theorem rotl28By1 (x : BitVec 28) : Statement (.rotl28By1 x) := setWidth_lt _

theorem rotl28By2 (x : BitVec 28) : Statement (.rotl28By2 x) := setWidth_lt _

theorem ksStep : Statement .ksStep := by
  unfold Statement
  decide

theorem rndStep : Statement .rndStep := by
  unfold Statement
  decide

end Sys2Proof.Laws.EncodeWidth
end

