-- ==== Sys2Proof/Laws/Step.lean ====
section
/-! SUPPORT. What a step can do, said once: the inversion of `step`, of `work` and of `exec`, and how the host's items
are used up. -/

namespace Sys2Proof.Machine

/-- The three ways a step reaches a next state. -/
theorem step_cases {s t : State} (h : step s = .next t) :
    (work s = .reset ∧ t = s.afterInput.resetEdge) ∨ (work s = .stay ∧ t = s.afterInput) ∨
      ∃ i, work s = .run i ∧ exec i s.afterInput = .next t := by
  unfold step at h
  split at h <;> simp_all

theorem step_of_run {s : State} {i : Instr} (h : work s = .run i) : step s = exec i s.afterInput := by
  simp [step, h]

theorem step_of_reset {s : State} (h : work s = .reset) : step s = .next s.afterInput.resetEdge := by
  simp [step, h]

theorem step_of_stay {s : State} (h : work s = .stay) : step s = .next s.afterInput := by
  simp [step, h]

/-- A command is read as a row of format CMD (30_encoding.md R75: the decoder is total). -/
theorem decodeOp_format (op : BitVec 3) (data : BitVec 64) : (decodeOp op data).format = .cmd := by
  unfold decodeOp
  split <;> rfl

/-- A word of a unit's format is read as a row of that format. -/
theorem decode_unit_format {u : UnitFormat} {w : InstrWord} {i : Instr} (h : decode u.toFormat w = .ok i) :
    i.format = u.toFormat := by
  have map_ok : ∀ {n} (x : Except DecodeError (BitVec n)) (f : BitVec n → Instr) (g : Format),
      (∀ y, (f y).format = g) → x.map f = .ok i → i.format = g := by
    intro n x f g hf hx
    cases x <;> simp [Except.map] at hx
    subst hx
    exact hf _
  cases u
  · simp only [decode, UnitFormat.toFormat, decodeTsel, decodeSelector] at h
    split at h <;> exact map_ok _ _ _ (fun _ => rfl) h
  · exact map_ok _ _ _ (fun _ => rfl) h
  · refine map_ok _ _ _ (fun y => ?_) h
    cases w.getLsbD 0 <;> rfl

/-- What an edge can run, and in which phase (10_state.md R25). -/
theorem workAtEdge_run {p : Pins} {ph : Phase} {i : Instr} (h : workAtEdge p ph = .run i) :
    p.rst = false ∧
      ((ph = .idle ∧ p.cmdValid = true ∧ i = decodeOp p.cmdOp p.cmdData) ∨ (ph = .ks ∧ i = .ksStep) ∨
        (ph = .rnd ∧ i = .rndStep)) := by
  unfold workAtEdge at h
  cases hr : p.rst <;> cases ph <;> cases hv : p.cmdValid <;> simp_all

/-- What a step can run: a unit's row, or in IDLE a command, or in KS and RND the sequencer's own step. -/
theorem work_run {s : State} {i : Instr} (h : work s = .run i) :
    (i.format = .tsel ∨ i.format = .saddr ∨ i.format = .rot) ∨ (s.phase = .idle ∧ i.format = .cmd) ∨
      (s.phase = .ks ∧ i = .ksStep) ∨ (s.phase = .rnd ∧ i = .rndStep) := by
  unfold work at h
  split at h
  · next u w q _ =>
    split at h
    · next j hj =>
      cases h
      have := decode_unit_format hj
      cases u <;> simp_all [UnitFormat.toFormat]
    · cases h
  · obtain ⟨-, ⟨h1, -, h2⟩ | h | h⟩ := workAtEdge_run h
    · exact .inr (.inl ⟨h1, h2 ▸ decodeOp_format _ _⟩)
    · exact .inr (.inr (.inl h))
    · exact .inr (.inr (.inr h))

/-- The items a busy core leaves when a command is held or nothing is presented: all of them. -/
theorem inputsAfter_held {q : List Input} (h : q = [] ∨ ∃ op data rest, q = .hold op data :: rest) :
    inputsAfter true q = q := by
  obtain rfl | ⟨_, _, _, rfl⟩ := h <;> rfl

/-- A look at a unit comes to the next step whatever the phase, for its item is no WAIT. -/
theorem pending_unit {s : State} {u : UnitFormat} {w : InstrWord} {q : List Input} (h : s.inputs = .unit u w :: q) :
    s.pending = .unit u w :: q := by
  simp [State.pending, h]

theorem pending_edge {s : State} {p : Pins} {q : List Input} (h : s.inputs = .edge p :: q) :
    s.pending = .edge p :: q := by
  simp [State.pending, h]

theorem pending_hold {s : State} {op : BitVec 3} {data : BitVec 64} {q : List Input} (h : s.inputs = .hold op data :: q) :
    s.pending = .hold op data :: q := by
  simp [State.pending, h]

end Sys2Proof.Machine
end

