-- ==== Sys2Proof/Laws/Run.lean ====
section
/-! SUPPORT. Runs of several steps, and what one step does in each phase when the host holds a command or presents
nothing. -/

namespace Sys2Proof.Machine

/-- The host's run of a machine, one step on. -/
theorem core_run_succ (M : Host.Core) (n : Nat) (s : M.State) :
    M.run (n + 1) s = (match M.step s with
      | .next t => M.run n t
      | .fault r => .fault r
      | .refused r => .refused r) := by
  refine (Host.Core.run.eq_2 _ _ _).trans ?_
  cases M.step s <;> rfl

/-- `steps` is the host's run of this machine. -/
theorem steps_eq_run (n : Nat) (s : State) : steps n s = Host.Core.run Sys2Proof.core n s := by
  induction n generalizing s with
  | zero => rfl
  | succ n ih =>
    refine Eq.trans ?_ (core_run_succ Sys2Proof.core n s).symm
    have one : Sys2Proof.core.step s = step s := rfl
    rw [one, steps]
    cases step s
    · exact ih _
    · rfl
    · rfl

@[simp] theorem steps_zero (s : State) : steps 0 s = .next s := rfl

theorem steps_succ_of_next {s t : State} (n : Nat) (h : step s = .next t) : steps (n + 1) s = steps n t := by
  simp [steps, h]

/-- A run that reaches a state goes on from there. -/
theorem steps_add {m : Nat} {s t : State} (n : Nat) (h : steps m s = .next t) : steps (m + n) s = steps n t := by
  induction m generalizing s with
  | zero => cases h; simp
  | succ m ih =>
    rw [show m + 1 + n = (m + n) + 1 by omega]
    cases hs : step s <;> simp only [steps, hs] at h ⊢
    · exact ih h
    · cases h
    · cases h

/-- The last step of a run. -/
theorem steps_snoc {n : Nat} {s t : State} (h : steps n s = .next t) : steps (n + 1) s = step t := by
  rw [steps_add 1 h]
  unfold steps
  cases step t <;> rfl

/-- When no unit is looked at, a step is an edge. -/
theorem work_of_edge {s : State} (h : ∀ u w q, s.pending ≠ .unit u w :: q) :
    work s = workAtEdge (pinsOf s.pending) s.phase := by
  unfold work
  split
  · next heq => exact absurd heq (h _ _ _)
  · rfl

theorem held_pins {q : List Input} (h : HeldOrNothing q) : (pinsOf q).rst = false := by
  obtain rfl | ⟨_, _, _, rfl⟩ := h <;> rfl

theorem held_no_unit {q : List Input} (h : HeldOrNothing q) (u : UnitFormat) (w : InstrWord) (r : List Input) :
    q ≠ .unit u w :: r := by
  obtain rfl | ⟨_, _, _, rfl⟩ := h <;> simp

theorem pending_of_busy {s : State} (h : s.busy = true) : s.pending = s.inputs := by
  simp [State.pending, h]

/-- A busy core leaves a held command where it is. -/
theorem afterInput_of_held {s : State} (hh : HeldOrNothing s.inputs) (hb : s.busy = true) : s.afterInput = s := by
  unfold State.afterInput
  rw [pending_of_busy hb, hb, inputsAfter_held hh]
  rfl

/-- In phase KS a step of a host that holds a command or presents nothing is the KS step (10_state.md R25). -/
theorem step_in_ks {s : State} (hh : HeldOrNothing s.inputs) (hp : s.phase = .ks) : step s = exec .ksStep s := by
  have hb : s.busy = true := by simp [State.busy, hp]
  have hw : work s = .run .ksStep := by
    rw [work_of_edge (by rw [pending_of_busy hb]; exact held_no_unit hh), pending_of_busy hb, hp]
    simp [workAtEdge, held_pins hh]
  rw [step_of_run hw, afterInput_of_held hh hb]

/-- In phase RND a step of a host that holds a command or presents nothing is the RND step (10_state.md R25). -/
theorem step_in_rnd {s : State} (hh : HeldOrNothing s.inputs) (hp : s.phase = .rnd) : step s = exec .rndStep s := by
  have hb : s.busy = true := by simp [State.busy, hp]
  have hw : work s = .run .rndStep := by
    rw [work_of_edge (by rw [pending_of_busy hb]; exact held_no_unit hh), pending_of_busy hb, hp]
    simp [workAtEdge, held_pins hh]
  rw [step_of_run hw, afterInput_of_held hh hb]

/-- The round numbers one further. -/
theorem roundIndices_take_succ (n : Nat) (h : n < 16) :
    Config.roundIndices.take (n + 1) = Config.roundIndices.take n ++ [BitVec.ofNat 4 n] := by
  have get : ∀ m : Fin 16, Config.roundIndices[m.val]'m.isLt = BitVec.ofNat 4 m := by decide
  rw [List.take_succ_eq_append_getElem h, get ⟨n, h⟩]

end Sys2Proof.Machine
end

