-- ==== Sys2Proof/Tests/Slice0.lean ====
section
/-! SUPPORT. Tests against the worked examples and vectors of spec/ (95_test_vectors.md, 40 to 44), the ill-formed terms
each check refuses, and, for every statement with hypotheses, a state and operands that meet them. -/

namespace Sys2Proof.Tests

open Sys2Proof Sys2Proof.Machine

/-! ### The static checks refuse what is ill-formed -/

theorem test_wf_refuses_tsel_reserved_7 : Instr.tselReserved7.wf = false := by decide
theorem test_wf_takes_the_other_tsel_rows : (Instr.ip 0).wf = true ∧ (Instr.pc2 0).wf = true := by decide
theorem test_table_check_refuses_a_short_table : PermTable.valid 32 32 (pTable.take 31) = false := by decide
theorem test_table_check_refuses_entry_zero : PermTable.valid 64 2 [1, 0] = false := by decide
theorem test_table_check_refuses_an_entry_above_win : PermTable.valid 32 2 [32, 33] = false := by decide
theorem test_sbox_check_refuses_a_repeated_value :
    sBoxRowsPermute (Vector.replicate 4 (Vector.replicate 16 7)) = false := by decide
theorem test_schedule_check_refuses_amount_three :
    scheduleValid #v[3, 1, 2, 2, 2, 2, 2, 2, 1, 2, 2, 2, 2, 2, 0, 1] = false := by decide
theorem test_schedule_check_refuses_another_sum : scheduleValid (Vector.replicate 16 2) = false := by decide
theorem test_tables_pass_the_check : tablesValid = true := by decide

/-! ### Decoding: each row by a word written out from the spec's encoding of it. Commands: R81's 17 hexadecimal digits
(95_test_vectors.md section 4). Units: the code of R78, R79, R80 in the low bits, the operand above it. -/

theorem test_decode_nop : decode .cmd 0x00000000000000000#67 = .ok (.nop 0) := by decide
theorem test_decode_loadkey : decode .cmd 0x1133457799BBCDFF1#67 = .ok (.loadkey 0x133457799BBCDFF1) := by decide
theorem test_decode_encrypt : decode .cmd 0x20123456789ABCDEF#67 = .ok (.encrypt 0x0123456789ABCDEF) := by decide
theorem test_decode_decrypt : decode .cmd 0x385E813540F0AB405#67 = .ok (.decrypt 0x85E813540F0AB405) := by decide
theorem test_decode_reserved4 : decode .cmd 0x40000000000000000#67 = .ok (.reserved4 0) := by decide
theorem test_decode_reserved5 : decode .cmd 0x5FFFFFFFFFFFFFFFF#67 = .ok (.reserved5 0xFFFFFFFFFFFFFFFF) := by decide
theorem test_decode_reserved6 : decode .cmd 0x60123456789ABCDEF#67 = .ok (.reserved6 0x0123456789ABCDEF) := by decide
theorem test_decode_reserved7 : decode .cmd 0x78000000000000001#67 = .ok (.reserved7 0x8000000000000001) := by decide
theorem test_decode_ip : decode .tsel 0x40000000000000000#67 = .ok (.ip 0x8000000000000000) := by decide
theorem test_decode_fp : decode .tsel 0b1001#67 = .ok (.fp 1) := by decide
theorem test_decode_e : decode .tsel 0b10000000000000000000000000000001010#67 = .ok (.e 0x80000001) := by decide
theorem test_decode_p : decode .tsel 0b11011#67 = .ok (.p 3) := by decide
theorem test_decode_pc1c : decode .tsel 0b101100#67 = .ok (.pc1c 5) := by decide
theorem test_decode_pc1d : decode .tsel 0b101101#67 = .ok (.pc1d 5) := by decide
theorem test_decode_pc2 : decode .tsel 0x7FFFFFFFFFFFFFE#67 = .ok (.pc2 0xFFFFFFFFFFFFFF) := by decide
theorem test_decode_tsel_reserved_7 : decode .tsel 0b111#67 = .ok .tselReserved7 := by decide
theorem test_decode_sbox : decode .saddr 0b101100111#67 = .ok (.sbox 5 2 7) := by decide
theorem test_decode_rotl28_1 : decode .rot 0b100#67 = .ok (.rotl28By1 2) := by decide
theorem test_decode_rotl28_2 : decode .rot 0b10000000000000000000000000001#67 = .ok (.rotl28By2 0x8000000) := by decide
theorem test_decode_ks_step : decode .step 0b01#67 = .ok .ksStep := by decide
theorem test_decode_rnd_step : decode .step 0b10#67 = .ok .rndStep := by decide
theorem test_decode_refuses_stray_bits :
    decode .saddr 0b1000000000#67 = .error .strayBits ∧ decode .tsel 0b1111#67 = .error .strayBits ∧
      decode .step 0b101#67 = .error .strayBits := by decide
theorem test_decode_refuses_no_step :
    decode .step 0b00#67 = .error .noStep ∧ decode .step 0b11#67 = .error .noStep := by decide

/-! ### The functions, by the worked examples of 40 to 44 and 95_test_vectors.md section 3 -/

theorem test_ip_kat : ip 0x0123456789ABCDEF = 0xCC00CCFFF0AAF0AA := by decide +kernel
theorem test_fp_kat : fp 0x0A4CD99543423234 = 0x85E813540F0AB405 := by decide +kernel
theorem test_e_both_wrap_arounds : expand 0x80000001 = 0xC00000000003 := by decide +kernel
theorem test_p_kat : permute 0x5C82B597 = 0x234AA9BB := by decide +kernel
theorem test_pc1c_kat : pc1c 0x133457799BBCDFF1 = 0xF0CCAAF := by decide +kernel
theorem test_pc1d_kat : pc1d 0x133457799BBCDFF1 = 0x556678F := by decide +kernel
theorem test_pc2_arbitrary : pc2 0x123456789ABCDE = 0xA10B9CD46E6E := by decide +kernel
theorem test_rotl28_wraps_one : rotl28 0x8000000 1 = 0x0000001 := by decide +kernel
theorem test_rotl28_wraps_two : rotl28 0xC000000 2 = 0x0000003 := by decide +kernel
theorem test_ksround_kat : ksRound 0 0xF0CCAAF 0x556678F = (0xE19955F, 0xAACCF1E, 0x1B02EFFC7072) := by decide +kernel
theorem test_substitute_arbitrary : substitute 0x123456789ABC = 0xD8259735 := by decide +kernel
theorem test_f_arbitrary : feistelF 0x12345678 0x0F0F0F0F0F0F = 0x4A56390C := by decide +kernel
theorem test_round_arbitrary : feistelRound 0x12345678 0x9ABCDEF0 0x0123456789AB = (0x9ABCDEF0, 0x1B339C10) := by decide +kernel
theorem test_word_of_bytes :
    wordOfBytes #v[0x01, 0x23, 0x45, 0x67, 0x89, 0xAB, 0xCD, 0xEF] = 0x0123456789ABCDEF := by decide +kernel
theorem test_word_of_hex :
    wordOfHex #v[0, 1, 2, 3, 4, 5, 6, 7, 8, 9, 0xA, 0xB, 0xC, 0xD, 0xE, 0xF] = 0x0123456789ABCDEF := by decide +kernel

/-- One S-box by the raw chunk, chunk 0 in the highest digit, as 42_sbox.md R161 prints it. -/
def flatBox (i : BitVec 3) : BitVec 256 :=
  (List.range 64).foldl (fun acc c => acc <<< 4 ||| (sBox i (BitVec.ofNat 6 c)).setWidth 256) 0

theorem test_flat_boxes_0_to_3 :
    flatBox 0 = 0xE04FD7142EF2BD813AA66CCB599503784F1CE882D46921B7F5CB937E3AA0560D ∧
      flatBox 1 = 0xF31D84E76FB2384E9C7021DAC6095BA50DE87AB1A34FD4125B86C76C90352EF9 ∧
      flatBox 2 = 0xAD0790E96334F65A12D8C57EBC4B2F81D16A4D9086F93807B41F2EC35BA5E27C ∧
      flatBox 3 = 0x7DD8EB35066F90A31427825CB1CA4EF9A36F9006CAB17DD8F91435EB5C27824E := by decide +kernel

theorem test_flat_boxes_4_to_7 :
    flatBox 4 = 0x2ECB421C74A7BD6185503FFAD309E8964B281CB7A1DE728DF69FC0596A3405E3 ∧
      flatBox 5 = 0xCA1FA4F2972C698506D13D4EE07B53B894E3F25C2985CF3A7B0E41A716D0B86D ∧
      flatBox 6 = 0x4DB02BE7F40981DA3EC3957C52AF6816164BBDD8C1347AE7A9F5608F0E52932C ∧
      flatBox 7 = 0xD12F8D486AF3B714AC9536EB500EC97272B14E1794CAE82D0F6CA9D0F335568B := by decide +kernel

/-! ### The block cipher, by the known-answer vector W1 and section 3.6 -/

theorem test_key_schedule_of_w1 :
    (generateRoundKeys 0x133457799BBCDFF1)[0] = 0x1B02EFFC7072 ∧
      (generateRoundKeys 0x133457799BBCDFF1)[8] = 0xE0DBEBEDE781 ∧
      (generateRoundKeys 0x133457799BBCDFF1)[15] = 0xCB3D8B0E17F5 := by decide +kernel

theorem test_encrypt_w1 :
    encryptBlock 0x0123456789ABCDEF (generateRoundKeys 0x133457799BBCDFF1) = 0x85E813540F0AB405 := by decide +kernel

theorem test_decrypt_semi_weak :
    decryptBlock 0x0123456789ABCDEF (generateRoundKeys 0x01FE01FE01FE01FE) = 0xFE44E3310FD98327 := by decide +kernel

/-! ### One step each, by the table of section 3.7 -/

/-- The next state, if there is one. -/
def got : Host.Outcome State Fault Refusal → Option State
  | .next t => some t
  | .fault _ => none
  | .refused _ => none

/-- An edge with these levels on the ports. -/
def at1 (s : State) (rst valid : Bool) (op : BitVec 3) (data : BitVec 64) : State :=
  { s with inputs := [.edge ⟨rst, valid, op, data⟩] }

/-- Two entries of the round-key file of W1, as section 3.3 prints them. -/
def someKeys : RoundKeys := ((Vector.replicate 16 0).set 0 0x1B02EFFC7072).set 15 0xCB3D8B0E17F5

/-- The key of W1 loaded, and its encryption finished: the rows "result present". -/
def done1 : State where
  l := 0x43423234
  r := 0x0A4CD995
  c := 0xF0CCAAF
  d := 0x556678F
  rk := someKeys
  dout := 0x85E813540F0AB405
  phase := .idle
  rcnt := 0
  dec := false
  done := true
  keyValid := true
  err := 0
  inputs := []
  unitOut := none

/-- A core with no key. -/
def bare : State := { done1 with keyValid := false, done := false }

/-- Phase KS at round 15 (row 15). -/
def ks15 : State := { bare with phase := .ks, rcnt := 15, c := 0xF866557, d := 0xAAB33C7 }

/-- Phase RND at round 15 (row 23). -/
def rnd15 : State := { done1 with phase := .rnd, rcnt := 15, done := false, l := 0xC28C960D, r := 0x43423234 }

theorem test_row_2_nop : (got (step (at1 bare false true 0 0))).map (fun t => (t.phase, t.err, t.c)) =
    some (.idle, 0, 0xF0CCAAF) := by decide
theorem test_row_3_loadkey : (got (step (at1 bare false true 1 0x133457799BBCDFF1))).map (fun t => (t.phase, t.c, t.d)) =
    some (.ks, 0xF0CCAAF, 0x556678F) := by decide +kernel
theorem test_row_4_encrypt_without_key : (got (step (at1 bare false true 2 0x0123456789ABCDEF))).map
    (fun t => (t.phase, t.err)) = some (.idle, 2) := by decide
theorem test_row_5_decrypt_without_key : (got (step (at1 bare false true 3 0x85E813540F0AB405))).map
    (fun t => (t.phase, t.err)) = some (.idle, 2) := by decide
theorem test_row_6_reserved4 : (got (step (at1 bare false true 4 0))).map (fun t => (t.phase, t.err)) =
    some (.idle, 1) := by decide
theorem test_row_10_first_error_kept : (got (step (at1 { bare with err := 2 } false true 5 0))).map (·.err) =
    some 2 := by decide
theorem test_row_8_reserved6 : (got (step (at1 bare false true 6 0))).map (fun t => (t.phase, t.err)) =
    some (.idle, 1) := by decide
theorem test_row_9_reserved7 : (got (step (at1 bare false true 7 0))).map (fun t => (t.phase, t.err)) =
    some (.idle, 1) := by decide
theorem test_row_13_reset_wins : (got (step (at1 { bare with err := 1 } true true 1 0x133457799BBCDFF1))).map
    (fun t => (t.phase, t.err)) = some (.idle, 0) := by decide
theorem test_row_14_ks_step_ignores_the_command :
    (got (step (at1 { bare with phase := .ks } false true 2 0x0123456789ABCDEF))).map
      (fun t => (t.phase, t.rcnt, t.c, t.d, t.rk[0])) = some (.ks, 1, 0xE19955F, 0xAACCF1E, 0x1B02EFFC7072) := by
  decide +kernel
theorem test_row_15_last_ks_step : (got (step (at1 ks15 false false 0 0))).map
    (fun t => (t.phase, t.rcnt, t.keyValid, t.c, t.d, t.rk[15])) =
      some (.idle, 0, true, 0xF0CCAAF, 0x556678F, 0xCB3D8B0E17F5) := by decide +kernel
theorem test_row_17_encrypt_starts : (got (step (at1 done1 false true 2 0x0123456789ABCDEF))).map
    (fun t => (t.phase, t.dec, t.done, t.l, t.r)) = some (.rnd, false, false, 0xCC00CCFF, 0xF0AAF0AA) := by
  decide +kernel
theorem test_row_26_decrypt_starts : (got (step (at1 done1 false true 3 0x85E813540F0AB405))).map
    (fun t => (t.phase, t.dec, t.done, t.l, t.r, t.dout)) =
      some (.rnd, true, false, 0x0A4CD995, 0x43423234, 0x85E813540F0AB405) := by decide +kernel
theorem test_row_22_rnd_step_ignores_the_command :
    (got (step (at1 { rnd15 with rcnt := 0, l := 0xCC00CCFF, r := 0xF0AAF0AA } false true 1 0))).map
      (fun t => (t.phase, t.rcnt, t.l, t.r)) = some (.rnd, 1, 0xF0AAF0AA, 0xEF4A6544) := by decide +kernel
theorem test_row_23_last_rnd_step : (got (step (at1 rnd15 false false 0 0))).map
    (fun t => (t.phase, t.rcnt, t.done, t.l, t.r, t.dout)) =
      some (.idle, 0, true, 0x43423234, 0x0A4CD995, 0x85E813540F0AB405) := by decide +kernel
theorem test_row_24_reset_in_rnd : (got (step (at1 { rnd15 with rcnt := 5 } true false 0 0))).map
    (fun t => (t.phase, t.rcnt, t.keyValid, t.done, t.l)) = some (.idle, 0, false, false, 0xC28C960D) := by decide

/-! ### A row placed where the next step takes it from, right after reset -/

theorem test_unit_pc1c :
    (got (step { bare with inputs := [.unit .tsel (tselWord 0b100#3 0x133457799BBCDFF1#64)] })).map (·.unitOut) =
      some (some (.w28 0xF0CCAAF)) := by decide +kernel
theorem test_unit_tsel_reserved_7_is_refused :
    got (step { bare with inputs := [.unit .tsel 0b111#67] }) = none := by decide
/-- One row of each format, the STEP rows by the phase they are taken in. -/
theorem test_placed_rows_run :
    (got (step (State.reset.withFetchWord 67 0x20123456789ABCDEF))).map (·.err) = some 2 ∧
      (got (step (State.reset.withFetchWord 3 6))).map (·.unitOut) = some (some (.w48 0)) ∧
      (got (step (State.reset.withFetchWord 9 0b000001100))).map (·.unitOut) = some (some (.w4 5)) ∧
      (got (step (State.reset.withFetchWord 1 1))).map (·.unitOut) = some (some (.w28 0)) ∧
      (got (step (State.reset.withFetchWord 2 1))).map (fun t => (t.phase, t.rcnt)) = some (.ks, 1) ∧
      (got (step (State.reset.withFetchWord 2 2))).map (fun t => (t.phase, t.rcnt)) = some (.rnd, 1) := by
  decide +kernel

/-! ### A state and operands that meet the hypotheses of each statement that has some -/

/-- A host that holds ENCRYPT. -/
def held (s : State) : State := { s with inputs := [.hold 2 7] }

/-- Phase KS at round 0, phase RND at round 0. -/
def ks0 : State := { ks15 with rcnt := 0 }
def rnd0 : State := { rnd15 with rcnt := 0 }

theorem test_witness_SelectPicksTheTabledBits : ipTable.valid 64 64 = true ∧ eTable.valid 32 48 = true := by decide
theorem test_witness_SelectIsLinear : pc2Table.valid 56 48 = true := by decide

theorem test_witness_TablesPassTheStaticCheck :
    (1 : Fin 65).val ≠ 0 ∧ (64 : Fin 65).val ≠ 0 ∧ (23 : Fin 48).val < 24 ∧ 24 ≤ (24 : Fin 48).val := by decide

theorem test_witness_TselCodesSelectTheirRows :
    workAtEdge (Pins.present 1 5) .idle = .run (.loadkey 5) ∧ workAtEdge Pins.quiet .rnd = .run .rndStep := by decide

theorem test_witness_RotationsCompose : 0 ≤ 27 ∧ 27 ≤ 27 := by decide

theorem test_witness_DroppedKeyBitsHaveNoEffect :
    0x0101010101010101#64 &&& 0xFEFEFEFEFEFEFEFE#64 = 0 ∧ 0x0000000000000001#64 &&& 0xFEFEFEFEFEFEFEFE#64 = 0 := by
  decide

theorem test_witness_LoadkeyRunsToCompletion : HeldOrNothing bare.inputs ∧ HeldOrNothing (held bare).inputs :=
  ⟨.inl rfl, .inr ⟨_, _, _, rfl⟩⟩

theorem test_witness_EqualRoundKeysMakeDirectionsAgree :
    ∀ i j : Fin 16, (Vector.replicate 16 (0x000000FFFFFF#48))[i] = (Vector.replicate 16 (0x000000FFFFFF#48))[j] := by
  intro i j
  simp

theorem test_witness_BlockCommandStartsTheRounds : done1.keyValid = true := by decide

theorem test_witness_BlockCommandRunsToCompletion :
    HeldOrNothing done1.inputs ∧ done1.keyValid = true ∧ HeldOrNothing (held done1).inputs ∧
      (held done1).keyValid = true :=
  ⟨.inl rfl, rfl, .inr ⟨_, _, _, rfl⟩, rfl⟩

theorem test_witness_KeyThenBlockGivesTheCipher :
    bare.phase = .idle ∧
      ({ bare with inputs := [.hold 1 5, .hold 3 6] } : State).inputs =
        [.hold 0b001#3 5, .hold (if true then 0b011#3 else 0b010#3) 6] := by decide

theorem test_witness_BlocksAreIndependent :
    done1.keyValid = true ∧ (held { done1 with l := 1, dout := 9 }).keyValid = true ∧
      done1.rk = (held { done1 with l := 1, dout := 9 }).rk ∧ HeldOrNothing done1.inputs ∧
      HeldOrNothing (held { done1 with l := 1, dout := 9 }).inputs :=
  ⟨rfl, rfl, rfl, .inl rfl, .inr ⟨_, _, _, rfl⟩⟩

theorem test_witness_EncodeOfDecode :
    decode .saddr 0b111111111#67 = .ok (.sbox 7 3 15) ∧ decode .step 0b10#67 = .ok .rndStep := by decide

/-- Every clause: reset, a command, an idle edge, the KS step, the RND step, PHASE = 3. -/
theorem test_witness_StepRunsTheDispatchedRow :
    (∀ s ∈ [at1 bare true true 1 5, at1 bare false true 1 5, bare, ks0, rnd15, { bare with phase := .phase3 }],
      ∀ u w q, s.pending ≠ .unit u w :: q) ∧
    (pinsOf (at1 bare true true 1 5).pending).rst = true ∧
    (pinsOf (at1 bare false true 1 5).pending).rst = false ∧ (at1 bare false true 1 5).phase = .idle ∧
    (pinsOf (at1 bare false true 1 5).pending).cmdValid = true ∧
    decode .cmd ((pinsOf (at1 bare false true 1 5).pending).cmdOp ++ (pinsOf (at1 bare false true 1 5).pending).cmdData) =
      .ok (.loadkey 5) ∧
    (pinsOf bare.pending).rst = false ∧ (pinsOf bare.pending).cmdValid = false ∧ bare.phase = .idle ∧
    (pinsOf ks0.pending).rst = false ∧ ks0.phase = .ks ∧ (pinsOf rnd15.pending).rst = false ∧ rnd15.phase = .rnd := by
  refine ⟨?_, by decide⟩
  intro s hs u w q
  simp only [List.mem_cons, List.not_mem_nil, or_false] at hs
  rcases hs with rfl | rfl | rfl | rfl | rfl | rfl <;>
    simp [State.pending, at1, bare, done1, ks0, ks15, rnd15, State.busy]

theorem test_witness_StepRowsAreSelectedByPhase :
    Pins.quiet.rst = false ∧ Phase.ks ≠ .idle ∧ Phase.rnd ≠ .idle ∧ Phase.phase3 ≠ .idle := by decide

theorem test_witness_UnitStepRunsTheDecodedRow :
    decode UnitFormat.rot.toFormat 0b11#67 = .ok (.rotl28By2 1) ∧
      decode UnitFormat.saddr.toFormat 0b1000000000#67 = .error .strayBits := by decide

/-- Every clause: held and accepted, held and waiting in KS and in RND, WAIT over, WAIT going on. -/
theorem test_witness_HeldCommandWaitsForIdle :
    (held bare).inputs = .hold 2 7 :: [] ∧ (held bare).phase = .idle ∧
    decode .cmd ((2 : BitVec 3) ++ (7 : BitVec 64)) = .ok (.encrypt 7) ∧
    (held ks0).phase = .ks ∧ (held rnd15).phase = .rnd ∧ (held rnd15).inputs = .hold 2 7 :: [] ∧
    ({ bare with inputs := [.wait] } : State).inputs = .wait :: [] ∧
    ({ ks15 with inputs := [.wait] } : State).phase = .ks := by decide

theorem test_witness_NopChangesNoRegister : bare.phase = .idle := by decide
theorem test_witness_KeyNotLoadedChangesOnlyErr : bare.keyValid = false ∧ bare.err = 0 := by decide

/-- Every command: NOP, LOADKEY, ENCRYPT and DECRYPT with no key, the reserved codes. -/
theorem test_witness_NoCommandRaisesBothErrors :
    bare.err = 0 ∧ ∀ op : Fin 8, ∃ i t, decode .cmd (BitVec.ofFin (w := 3) op ++ (5 : BitVec 64)) = .ok i ∧ exec i bare = .next t := by
  refine ⟨rfl, fun op => ?_⟩
  fin_cases op <;> exact ⟨_, _, rfl, rfl⟩

/-- RCNT below 15 and at 15, in both phases, and a command that starts each phase. -/
theorem test_witness_RcntCountsTheRounds :
    (∃ t, exec .ksStep ks0 = .next t) ∧ ks0.rcnt ≠ 15 ∧ (∃ t, exec .ksStep ks15 = .next t) ∧ ks15.rcnt = 15 ∧
    (∃ t, exec .rndStep rnd15 = .next t) ∧ rnd15.rcnt = 15 ∧
    (∃ t, (Instr.loadkey 5).format = .cmd ∧ exec (.loadkey 5) bare = .next t ∧ t.phase = .ks ∧ bare.phase = .idle) ∧
    (∃ t, (Instr.encrypt 5).format = .cmd ∧ exec (.encrypt 5) done1 = .next t ∧ t.phase = .rnd ∧ done1.phase = .idle) :=
  ⟨⟨_, rfl⟩, by decide, ⟨_, rfl⟩, rfl, ⟨_, rfl⟩, rfl, ⟨_, rfl, rfl, rfl, rfl⟩, ⟨_, rfl, rfl, rfl, rfl⟩⟩

theorem test_witness_DecIsTheDirection :
    (∃ t, step (at1 done1 false true 3 5) = .next t ∧ t.dec ≠ (at1 done1 false true 3 5).dec) ∧
    (Instr.ksStep ≠ .rndStep ∧ ∃ t, exec .ksStep ks0 = .next t) ∧
    (done1.keyValid = true ∧ ∃ t, exec (.encrypt 5) done1 = .next t) :=
  ⟨⟨_, rfl, by decide⟩, ⟨by decide, _, rfl⟩, rfl, _, rfl⟩

/-- DOUT written and DONE set; DONE cleared by a block command; DONE cleared by reset. -/
theorem test_witness_DoneAndDoutGoTogether :
    (∃ t, step { rnd15 with dout := 0 } = .next t ∧ t.dout ≠ 0 ∧ rnd15.done = false ∧ t.done = true) ∧
    (∃ t, step (at1 done1 false true 2 5) = .next t ∧ done1.done = true ∧ t.done = false) ∧
    (∃ t, step (at1 done1 true false 0 0) = .next t ∧ done1.done = true ∧ t.done = false) :=
  ⟨⟨_, rfl, by decide +kernel, rfl, rfl⟩, ⟨_, rfl, rfl, rfl⟩, _, rfl, rfl, rfl⟩

/-- An error recorded, of either kind, and one already there. -/
theorem test_witness_FirstErrorIsKept :
    (∃ t, step (at1 bare false true 2 5) = .next t ∧ ¬ (at1 bare false true 2 5).atReset ∧ t.err ≠ bare.err) ∧
    (∃ t, step (at1 bare false true 7 5) = .next t ∧ ¬ (at1 bare false true 7 5).atReset ∧ t.err ≠ bare.err) ∧
    (∃ t, step (at1 { bare with err := 1 } false true 2 5) = .next t ∧
      ¬ (at1 { bare with err := 1 } false true 2 5).atReset ∧ (at1 { bare with err := 1 } false true 2 5).err ≠ 0) := by
  refine ⟨⟨_, rfl, ?_, ?_⟩, ⟨_, rfl, ?_, ?_⟩, ⟨_, rfl, ?_, ?_⟩⟩ <;> (try unfold State.atReset) <;> decide

theorem test_witness_ErrorsDoNotDisturbLaterWork :
    (∃ t, exec (.loadkey 5) bare = .next t) ∧ (2 : BitVec 2) ≠ 0 ∧ ∃ t, exec (.encrypt 5) bare = .next t :=
  ⟨⟨_, rfl⟩, by decide, _, rfl⟩

/-- A reset edge; and away from it a recorded error, a phase that goes on, and KEY_VALID dropping. -/
theorem test_witness_ResetWritesTheControlRegisters :
    (at1 rnd15 true false 0 0).atReset ∧ (at1 rnd15 true false 0 0).inputs = .edge ⟨true, false, 0, 0⟩ :: [] ∧
    (∃ t, step (at1 { bare with err := 3 } false true 1 5) = .next t ∧
      ¬ (at1 { bare with err := 3 } false true 1 5).atReset) ∧
    (∃ t, step ks0 = .next t ∧ ¬ ks0.atReset ∧ ks0.phase = .ks ∧ ks0.rcnt ≠ 15) ∧
    (∃ t, step (at1 done1 false true 1 5) = .next t ∧ ¬ (at1 done1 false true 1 5).atReset ∧
      done1.keyValid = true ∧ t.keyValid = false) := by
  refine ⟨?_, rfl, ⟨_, rfl, ?_⟩, ⟨_, rfl, ?_, rfl, by decide⟩, ⟨_, rfl, ?_, rfl, rfl⟩⟩ <;> unfold State.atReset <;>
    decide

theorem test_witness_ResetAbandonsTheOperation :
    (at1 ks15 true false 0 0).atReset ∧ (at1 ks15 true false 0 0).phase = .ks ∧ (at1 rnd15 true true 1 5).atReset ∧
      (at1 rnd15 true true 1 5).phase = .rnd := by
  refine ⟨?_, rfl, ?_, rfl⟩ <;> unfold State.atReset <;> decide

theorem done1_controlInv : done1.ControlInv := by constructor <;> decide
theorem ks15_controlInv : ks15.ControlInv := by constructor <;> decide
theorem rnd15_controlInv : rnd15.ControlInv := by constructor <;> decide

theorem test_witness_StepKeepsTheControlInvariant :
    (ks15.ControlInv ∧ ∃ t, step ks15 = .next t) ∧ (rnd15.ControlInv ∧ ∃ t, step rnd15 = .next t) ∧
      (done1.ControlInv ∧ ∃ t, step (at1 done1 false true 1 5) = .next t) :=
  ⟨⟨ks15_controlInv, _, rfl⟩, ⟨rnd15_controlInv, _, rfl⟩, done1_controlInv, _, rfl⟩

/-- A core that has just accepted LOADKEY 5, and one that has just accepted ENCRYPT 7 under the key 5. -/
def keyGoing : State := { bare with phase := .ks, c := pc1c 5, d := pc1d 5 }
def blockGoing : State :=
  { done1 with phase := .rnd, done := false, l := hi (ip 7), r := lo (ip 7), rk := generateRoundKeys 5 }

theorem test_witness_StepKeepsTheResultInvariant :
    (keyGoing.ResultInv ⟨5, 0, false, 0⟩ ∧ ∃ t, step keyGoing = .next t) ∧
      (blockGoing.ResultInv ⟨5, 7, false, 5⟩ ∧ ∃ t, step blockGoing = .next t) := by
  refine ⟨⟨⟨?_, ?_, ?_, ?_, ?_, ?_⟩, _, rfl⟩, ⟨?_, ?_, ?_, ?_, ?_, ?_⟩, _, rfl⟩
  · constructor <;> decide
  · intro h; cases h
  · exact fun _ => ⟨keyGoing.rk, rfl⟩
  · intro h; cases h
  · intro h; cases h
  · intro h; cases h
  · constructor <;> decide
  · exact fun _ => rfl
  · intro h; cases h
  · exact fun _ => ⟨rfl, rfl⟩
  · intro _
    have none_yet : roundsBefore blockGoing.rcnt = [] := rfl
    rw [none_yet, cryptHalves, List.foldl_nil, blockGoing]
  · intro h; cases h

/-- Every clause of the listing: reset, IDLE, KS before and at 15, RND before and at 15, a look at a unit in KS. -/
theorem test_witness_PhaseMovesAsListed :
    ((at1 ks15 true false 0 0).atReset ∧ ∃ t, step (at1 ks15 true false 0 0) = .next t) ∧
    (¬ (at1 done1 false true 2 5).atReset ∧ done1.phase = .idle ∧ ∃ t, step (at1 done1 false true 2 5) = .next t) ∧
    (¬ ks0.atReset ∧ work ks0 = .run .ksStep ∧ ks0.rcnt ≠ 15 ∧ ∃ t, step ks0 = .next t) ∧
    (¬ ks15.atReset ∧ work ks15 = .run .ksStep ∧ ks15.rcnt = 15 ∧ ∃ t, step ks15 = .next t) ∧
    (¬ rnd0.atReset ∧ work rnd0 = .run .rndStep ∧ rnd0.rcnt ≠ 15 ∧ ∃ t, step rnd0 = .next t) ∧
    (¬ rnd15.atReset ∧ work rnd15 = .run .rndStep ∧ rnd15.rcnt = 15 ∧ ∃ t, step rnd15 = .next t) ∧
    (work { ks15 with inputs := [.unit .rot 3] } = .run (.rotl28By2 1) ∧
      ∃ t, step { ks15 with inputs := [.unit .rot 3] } = .next t) := by
  refine ⟨⟨?_, _, rfl⟩, ⟨?_, rfl, _, rfl⟩, ⟨?_, rfl, by decide, _, rfl⟩, ⟨?_, rfl, rfl, _, rfl⟩, ⟨?_, rfl, by decide, _, rfl⟩,
    ⟨?_, rfl, rfl, _, rfl⟩, by decide, _, rfl⟩ <;> unfold State.atReset <;> decide

/-- Each register written: L by a block command, RK and C by the KS step, DOUT by the last RND step. -/
theorem test_witness_RegistersAreWrittenOnlyByTheirSteps :
    (∃ t, step (at1 done1 false true 2 0x0123456789ABCDEF) = .next t ∧ t.l ≠ done1.l) ∧
    (∃ t, step ks15 = .next t ∧ t.c ≠ ks15.c ∧ t.d ≠ ks15.d) ∧
    (∃ t, step ks0 = .next t ∧ t.rk[(0 : RoundIndex).toNat] ≠ ks0.rk[(0 : RoundIndex).toNat]) ∧
    (∃ t, step { rnd15 with dout := 0 } = .next t ∧ t.dout ≠ 0) := by
  refine ⟨⟨_, rfl, ?_⟩, ⟨_, rfl, ?_, ?_⟩, ⟨_, rfl, ?_⟩, ⟨_, rfl, ?_⟩⟩ <;> decide +kernel

/-- The three cases in which nothing is accepted: reset, a phase other than IDLE, `cmd_valid` = 0. -/
theorem test_witness_UnacceptedCommandsAreNotLookedAt :
    (⟨true, true, 1, 5⟩ : Pins).rst = (⟨true, false, 2, 6⟩ : Pins).rst ∧ (⟨true, true, 1, 5⟩ : Pins).rst = true ∧
    ks15.phase ≠ .idle ∧ rnd15.phase ≠ .idle ∧
    (⟨false, false, 1, 5⟩ : Pins).cmdValid = false ∧ (⟨false, false, 2, 6⟩ : Pins).cmdValid = false := by decide

theorem test_witness_TimingAndErrorsDoNotDependOnData :
    SameControl (held done1) { done1 with l := 1, rk := Vector.replicate 16 3, inputs := [.hold 2 8] } ∧
      List.Forall₂ SameButData (held done1).inputs [.hold 2 8] ∧ ∃ t, step (held done1) = .next t :=
  ⟨⟨rfl, rfl, rfl, rfl, rfl⟩, .cons (.hold _ _ _) .nil, _, rfl⟩

theorem test_witness_UnitRowsChangeNoRegister :
    ((Instr.ip 5).format = .tsel ∧ ∃ t, exec (.ip 5) bare = .next t) ∧
    ((Instr.sbox 7 3 15).format = .saddr ∧ ∃ t, exec (.sbox 7 3 15) bare = .next t) ∧
    ((Instr.rotl28By2 5).format = .rot ∧ ∃ t, exec (.rotl28By2 5) bare = .next t) :=
  ⟨⟨rfl, _, rfl⟩, ⟨rfl, _, rfl⟩, rfl, _, rfl⟩

end Sys2Proof.Tests
end

/-! ### What each row does to the state

`exec` said once: the state a row answers, as a relation between the state, the row and the state after it. The proofs
about steps split on this relation. -/

namespace Sys2Proof.Machine

/-- The block command of a direction: DECRYPT for `true`, ENCRYPT for `false` (R190, R191). -/
def blockCommand (dec : Bool) (x : Block) : Instr := if dec then .decrypt x else .encrypt x

/-- One of the four reserved codes (R75). -/
def IsReserved (i : Instr) : Prop :=
  ∃ data, i = .reserved4 data ∨ i = .reserved5 data ∨ i = .reserved6 data ∨ i = .reserved7 data

/-- The state after an accepted LOADKEY (R140). -/
def State.loadKey (k : MasterKey) (s : State) : State :=
  ((s.writeKeyHalves (pc1c k) (pc1d k)).setKeyValid false).enterPhase .ks

/-- The state after a KS step (R138). -/
def State.ksNext (s : State) : State :=
  (((s.writeKeyHalves (ksRound s.rcnt s.c s.d).1 (ksRound s.rcnt s.c s.d).2.1).writeRk s.rcnt
    (ksRound s.rcnt s.c s.d).2.2).finishKey s.rcnt).advance

/-- The halves after the round that RCNT numbers (R186). -/
def State.roundHalves (s : State) : Half × Half := cryptTurn s.rk s.dec (s.l, s.r) s.rcnt

/-- The state after a RND step (R186). -/
def State.rndNext (s : State) : State :=
  ((s.writeHalves s.roundHalves.1 s.roundHalves.2).finishBlock s.rcnt s.roundHalves.1 s.roundHalves.2).advance

@[simp] theorem State.loadKey_l (k : MasterKey) (s : State) : (s.loadKey k).l = s.l := rfl
@[simp] theorem State.loadKey_r (k : MasterKey) (s : State) : (s.loadKey k).r = s.r := rfl
@[simp] theorem State.loadKey_c (k : MasterKey) (s : State) : (s.loadKey k).c = pc1c k := rfl
@[simp] theorem State.loadKey_d (k : MasterKey) (s : State) : (s.loadKey k).d = pc1d k := rfl
@[simp] theorem State.loadKey_rk (k : MasterKey) (s : State) : (s.loadKey k).rk = s.rk := rfl
@[simp] theorem State.loadKey_dout (k : MasterKey) (s : State) : (s.loadKey k).dout = s.dout := rfl
@[simp] theorem State.loadKey_phase (k : MasterKey) (s : State) : (s.loadKey k).phase = .ks := rfl
@[simp] theorem State.loadKey_rcnt (k : MasterKey) (s : State) : (s.loadKey k).rcnt = 0 := rfl
@[simp] theorem State.loadKey_dec (k : MasterKey) (s : State) : (s.loadKey k).dec = s.dec := rfl
@[simp] theorem State.loadKey_done (k : MasterKey) (s : State) : (s.loadKey k).done = s.done := rfl
@[simp] theorem State.loadKey_keyValid (k : MasterKey) (s : State) : (s.loadKey k).keyValid = false := rfl
@[simp] theorem State.loadKey_err (k : MasterKey) (s : State) : (s.loadKey k).err = s.err := rfl
@[simp] theorem State.loadKey_inputs (k : MasterKey) (s : State) : (s.loadKey k).inputs = s.inputs := rfl

@[simp] theorem State.ksNext_l (s : State) : s.ksNext.l = s.l := rfl
@[simp] theorem State.ksNext_r (s : State) : s.ksNext.r = s.r := rfl
@[simp] theorem State.ksNext_rk (s : State) : s.ksNext.rk = s.rk.set s.rcnt.toNat (ksRound s.rcnt s.c s.d).2.2 := rfl
@[simp] theorem State.ksNext_dout (s : State) : s.ksNext.dout = s.dout := rfl
@[simp] theorem State.ksNext_phase (s : State) : s.ksNext.phase = if s.rcnt = 15 then .idle else s.phase := rfl
@[simp] theorem State.ksNext_rcnt (s : State) : s.ksNext.rcnt = s.rcnt + 1 := rfl
@[simp] theorem State.ksNext_dec (s : State) : s.ksNext.dec = s.dec := rfl
@[simp] theorem State.ksNext_done (s : State) : s.ksNext.done = s.done := rfl
@[simp] theorem State.ksNext_keyValid (s : State) : s.ksNext.keyValid = if s.rcnt = 15 then true else s.keyValid := rfl
@[simp] theorem State.ksNext_err (s : State) : s.ksNext.err = s.err := rfl
@[simp] theorem State.ksNext_inputs (s : State) : s.ksNext.inputs = s.inputs := rfl

@[simp] theorem State.rndNext_l (s : State) : s.rndNext.l = s.roundHalves.1 := rfl
@[simp] theorem State.rndNext_r (s : State) : s.rndNext.r = s.roundHalves.2 := rfl
@[simp] theorem State.rndNext_c (s : State) : s.rndNext.c = s.c := rfl
@[simp] theorem State.rndNext_d (s : State) : s.rndNext.d = s.d := rfl
@[simp] theorem State.rndNext_rk (s : State) : s.rndNext.rk = s.rk := rfl
@[simp] theorem State.rndNext_dout (s : State) :
    s.rndNext.dout = if s.rcnt = 15 then fp (preOutput s.roundHalves.1 s.roundHalves.2) else s.dout := rfl
@[simp] theorem State.rndNext_phase (s : State) : s.rndNext.phase = if s.rcnt = 15 then .idle else s.phase := rfl
@[simp] theorem State.rndNext_rcnt (s : State) : s.rndNext.rcnt = s.rcnt + 1 := rfl
@[simp] theorem State.rndNext_dec (s : State) : s.rndNext.dec = s.dec := rfl
@[simp] theorem State.rndNext_done (s : State) : s.rndNext.done = if s.rcnt = 15 then true else s.done := rfl
@[simp] theorem State.rndNext_keyValid (s : State) : s.rndNext.keyValid = s.keyValid := rfl
@[simp] theorem State.rndNext_err (s : State) : s.rndNext.err = s.err := rfl
@[simp] theorem State.rndNext_inputs (s : State) : s.rndNext.inputs = s.inputs := rfl

/-- The sixteenth RND step writes the result of the halves it makes (R186). -/
theorem rndNext_dout_of_last {s : State} (h : s.rcnt = 15) :
    s.rndNext.dout = fp (preOutput s.roundHalves.1 s.roundHalves.2) := if_pos h

theorem exec_blockCommand (dec : Bool) (x : Block) (s : State) :
    exec (blockCommand dec x) s =
      if s.keyValid then .next (s.start x dec) else .next (s.raiseError errKeyNotLoaded) := by
  cases dec <;> rfl

theorem exec_reserved {i : Instr} (h : IsReserved i) (s : State) : exec i s = .next (s.raiseError errInvalidMode) := by
  obtain ⟨data, rfl | rfl | rfl | rfl⟩ := h <;> rfl

/-- What the row `i` makes of the state `s`: the rows by what they do. A row that looks at a unit shows a value that does
not depend on the state. -/
inductive Effect (s : State) : Instr → State → Prop
  | nop (data : BitVec 64) : Effect s (.nop data) s
  | loadkey (k : MasterKey) : Effect s (.loadkey k) (s.loadKey k)
  | start (dec : Bool) (x : Block) (key : s.keyValid = true) : Effect s (blockCommand dec x) (s.start x dec)
  | noKey (dec : Bool) (x : Block) (key : s.keyValid = false) :
      Effect s (blockCommand dec x) (s.raiseError errKeyNotLoaded)
  | reserved {i : Instr} (code : IsReserved i) : Effect s i (s.raiseError errInvalidMode)
  | look {i : Instr} {y : UnitOut} (format : i.format = .tsel ∨ i.format = .saddr ∨ i.format = .rot)
      (shows : ∀ u, exec i u = .next (u.showUnit y)) : Effect s i (s.showUnit y)
  | ksStep : Effect s .ksStep s.ksNext
  | rndStep : Effect s .rndStep s.rndNext

theorem Effect.exec_eq {s t : State} {i : Instr} (h : Effect s i t) : exec i s = .next t := by
  cases h with
  | nop | loadkey | ksStep | rndStep => rfl
  | start dec x key => rw [exec_blockCommand, if_pos key]
  | noKey dec x key => rw [exec_blockCommand, key, if_neg Bool.false_ne_true]
  | reserved code => exact exec_reserved code s
  | look _ shows => exact shows s

theorem Effect.of_blockCommand {s t : State} {dec : Bool} {x : Block} (h : exec (blockCommand dec x) s = .next t) :
    Effect s (blockCommand dec x) t := by
  rw [exec_blockCommand] at h
  split at h
  · next key => cases h; exact .start dec x key
  · next key => cases h; exact .noKey dec x (Bool.eq_false_of_not_eq_true key)

theorem Effect.of_reserved {s t : State} {i : Instr} (code : IsReserved i) (h : exec i s = .next t) : Effect s i t := by
  rw [exec_reserved code] at h
  cases h
  exact .reserved code

theorem Effect.of_look {s t : State} {i : Instr} {y : UnitOut}
    (format : i.format = .tsel ∨ i.format = .saddr ∨ i.format = .rot) (shows : ∀ u, exec i u = .next (u.showUnit y))
    (h : exec i s = .next t) : Effect s i t := by
  rw [shows] at h
  cases h
  exact .look format shows

/-- The inversion of `exec`: `Effect` is all that a row can do. -/
theorem Effect.of_exec {s t : State} {i : Instr} (h : exec i s = .next t) : Effect s i t := by
  cases i with
  | nop data => cases h; exact .nop data
  | loadkey k => cases h; exact .loadkey k
  | encrypt x => exact .of_blockCommand (dec := false) h
  | decrypt x => exact .of_blockCommand (dec := true) h
  | reserved4 data => exact .of_reserved ⟨data, .inl rfl⟩ h
  | reserved5 data => exact .of_reserved ⟨data, .inr (.inl rfl)⟩ h
  | reserved6 data => exact .of_reserved ⟨data, .inr (.inr (.inl rfl))⟩ h
  | reserved7 data => exact .of_reserved ⟨data, .inr (.inr (.inr rfl))⟩ h
  | ip x | fp x | e r | p x | pc1c k | pc1d k | pc2 cd => exact .of_look (.inl rfl) (fun _ => rfl) h
  | tselReserved7 => cases h
  | sbox j row col => exact .of_look (.inr (.inl rfl)) (fun _ => rfl) h
  | rotl28By1 x | rotl28By2 x => exact .of_look (.inr (.inr rfl)) (fun _ => rfl) h
  | ksStep => cases h; exact .ksStep
  | rndStep => cases h; exact .rndStep

theorem exec_eq_next_iff {s t : State} {i : Instr} : exec i s = .next t ↔ Effect s i t :=
  ⟨.of_exec, Effect.exec_eq⟩

/-- The inversion of `step`: reset, an idle edge, or a row with its effect. -/
theorem step_effect {s t : State} (h : step s = .next t) :
    (work s = .reset ∧ t = s.afterInput.resetEdge) ∨ (work s = .stay ∧ t = s.afterInput) ∨
      ∃ i, work s = .run i ∧ Effect s.afterInput i t := by
  simpa only [exec_eq_next_iff] using step_cases h

@[simp] theorem blockCommand_format (dec : Bool) (x : Block) : (blockCommand dec x).format = .cmd := by
  cases dec <;> rfl

theorem IsReserved.format_eq {i : Instr} (h : IsReserved i) : i.format = .cmd := by
  obtain ⟨data, rfl | rfl | rfl | rfl⟩ := h <;> rfl

/-- A command runs in IDLE only (R25, R73). -/
theorem phase_of_run_cmd {s : State} {i : Instr} (h : work s = .run i) (hi : i.format = .cmd) : s.phase = .idle := by
  obtain hu | ⟨hp, -⟩ | ⟨-, rfl⟩ | ⟨-, rfl⟩ := work_run h
  · simp [hi] at hu
  · exact hp
  · cases hi
  · cases hi

/-- The KS step runs in KS only (R25). -/
theorem phase_of_run_ksStep {s : State} (h : work s = .run .ksStep) : s.phase = .ks := by
  simpa [Instr.format] using work_run h

/-- The RND step runs in RND only (R25). -/
theorem phase_of_run_rndStep {s : State} (h : work s = .run .rndStep) : s.phase = .rnd := by
  simpa [Instr.format] using work_run h

/-- Running a block command is running ENCRYPT or DECRYPT. -/
theorem run_encrypt_or_decrypt {s : State} {dec : Bool} {x : Block} (h : work s = .run (blockCommand dec x)) :
    ∃ x, work s = .run (.encrypt x) ∨ work s = .run (.decrypt x) := by
  cases dec
  · exact ⟨x, .inl h⟩
  · exact ⟨x, .inr h⟩

end Sys2Proof.Machine

/-! ### The invariant of the control registers (R34) -/

namespace Sys2Proof.Machine

/-- ERR, the host's items and `unitOut` may change under the invariant, as long as ERR is not 3. -/
theorem State.ControlInv.with_err {s : State} (hs : s.ControlInv) {e : BitVec 2} (he : e ≠ errInvalidTable)
    (q : List Input) (y : Option UnitOut) : ({ s with err := e, inputs := q, unitOut := y } : State).ControlInv :=
  ⟨hs.reached, hs.idle_rcnt, hs.rnd_key, hs.rnd_done, hs.ks_key, he⟩

/-- The error entry writes its own code or keeps ERR (R206). -/
theorem raiseError_err_ne {s : State} {code e : BitVec 2} (hs : s.err ≠ e) (hc : code ≠ e) :
    (s.raiseError code).err ≠ e := by
  rw [State.raiseError_err]
  split
  · exact hc
  · exact hs

theorem resetEdge_controlInv (s : State) : s.resetEdge.ControlInv := by
  constructor <;> simp [errInvalidTable]

theorem loadKey_controlInv {s : State} (hs : s.ControlInv) (k : MasterKey) : (s.loadKey k).ControlInv := by
  constructor <;> simp [hs.err_code]

theorem start_controlInv {s : State} (hs : s.ControlInv) (x : Block) (dec : Bool) (key : s.keyValid = true) :
    (s.start x dec).ControlInv := by
  constructor <;> simp [key, hs.err_code]

/-- The KS step ends the phase with RCNT = 0 at the sixteenth step, and goes on with KEY_VALID = 0 before it. -/
theorem ksNext_controlInv {s : State} (hs : s.ControlInv) (hp : s.phase = .ks) : s.ksNext.ControlInv := by
  have key := hs.ks_key hp
  by_cases last : s.rcnt = 15#4
  · constructor <;> simp [last, hs.err_code]
  · constructor <;> simp [last, hp, key, hs.err_code]

/-- The RND step ends the phase with RCNT = 0 at the sixteenth step, and goes on with DONE = 0 before it. -/
theorem rndNext_controlInv {s : State} (hs : s.ControlInv) (hp : s.phase = .rnd) : s.rndNext.ControlInv := by
  have key := hs.rnd_key hp
  have done := hs.rnd_done hp
  by_cases last : s.rcnt = 15#4
  · constructor <;> simp [last, hs.err_code]
  · constructor <;> simp [last, hp, key, done, hs.err_code]

/-- Every row keeps the invariant, the sequencer's own steps in their own phase. -/
theorem Effect.keeps_controlInv {s t : State} {i : Instr} (h : Effect s i t) (hs : s.ControlInv)
    (hks : i = .ksStep → s.phase = .ks) (hrnd : i = .rndStep → s.phase = .rnd) : t.ControlInv := by
  cases h with
  | nop => exact hs
  | loadkey k => exact loadKey_controlInv hs k
  | start dec x key => exact start_controlInv hs x dec key
  | noKey => exact hs.with_err (raiseError_err_ne hs.err_code (by decide)) _ _
  | reserved => exact hs.with_err (raiseError_err_ne hs.err_code (by decide)) _ _
  | look => exact hs.with_err hs.err_code _ _
  | ksStep => exact ksNext_controlInv hs (hks rfl)
  | rndStep => exact rndNext_controlInv hs (hrnd rfl)

theorem step_keeps_controlInv {s t : State} (hs : s.ControlInv) (h : step s = .next t) : t.ControlInv := by
  have hq : s.afterInput.ControlInv := hs.with_err hs.err_code _ _
  obtain ⟨-, rfl⟩ | ⟨-, rfl⟩ | ⟨i, hw, he⟩ := step_effect h
  · exact resetEdge_controlInv _
  · exact hq
  · exact he.keeps_controlInv hq (fun e => phase_of_run_ksStep (s := s) (e ▸ hw))
      (fun e => phase_of_run_rndStep (s := s) (e ▸ hw))

/-- Settles O51: each effect keeps the invariant. -/
theorem stepKeepsTheControlInvariant : Obligations.StepKeepsTheControlInvariant :=
  fun _ _ hs h => step_keeps_controlInv hs h

/-- Settles O52: the reset state is one that a reset edge leaves as it is. -/
theorem resetMeetsTheControlInvariant : Obligations.ResetMeetsTheControlInvariant :=
  resetEdge_controlInv State.reset

end Sys2Proof.Machine

/-! ### The rounds run so far, and the invariant of the results (R28, R29, R34, R60) -/

namespace Sys2Proof.Machine

theorem roundsBefore_succ {i : RoundIndex} (h : i ≠ 15) : roundsBefore (i + 1) = roundsBefore i ++ [i] := by
  revert i
  decide

/-- The sixteen rounds are the fifteen before the last, and the last. -/
theorem roundsBefore_last {i : RoundIndex} (h : i = 15) : roundsBefore i ++ [i] = Config.roundIndices := by
  subst h
  decide

theorem mem_roundIndices (i : RoundIndex) : i ∈ Config.roundIndices := by
  revert i
  decide

theorem scheduleAfter_snoc (k : MasterKey) (rk : RoundKeys) (is : List RoundIndex) (i : RoundIndex) :
    scheduleAfter k rk (is ++ [i]) = ksTurn (scheduleAfter k rk is) i := by
  simp [scheduleAfter]

theorem cryptHalves_snoc (x : Block) (rk : RoundKeys) (dec : Bool) (is : List RoundIndex) (i : RoundIndex) :
    cryptHalves x rk dec (is ++ [i]) = cryptTurn rk dec (cryptHalves x rk dec is) i := by
  simp [cryptHalves]

theorem crypt_eq_cryptHalves (x : Block) (rk : RoundKeys) (dec : Bool) :
    crypt x rk dec = fp (preOutput (cryptHalves x rk dec Config.roundIndices).1
      (cryptHalves x rk dec Config.roundIndices).2) := rfl

/-- Two files that agree on every round number are equal. -/
theorem roundKeys_ext {rk rk' : RoundKeys} (h : ∀ j : RoundIndex, rk[j.toNat] = rk'[j.toNat]) : rk = rk' := by
  ext n hn
  have entry : rk[n] = rk'[n] := by simpa [Nat.mod_eq_of_lt hn] using h (BitVec.ofNat 4 n)
  rw [entry]

/-- The rounds in `is` write their own entries of the file, so only the entries of the other rounds come from the file
they start on (R134). -/
theorem foldl_ksTurn_congr (is : List RoundIndex) (c d : KeyHalf) {rk rk' : RoundKeys}
    (h : ∀ j, j ∉ is → rk[j.toNat] = rk'[j.toNat]) : is.foldl ksTurn (c, d, rk) = is.foldl ksTurn (c, d, rk') := by
  induction is generalizing c d rk rk' with
  | nil => rw [roundKeys_ext fun j => h j (by simp)]
  | cons i is ih =>
    refine ih _ _ fun j hj => ?_
    rw [Vector.getElem_set, Vector.getElem_set]
    split
    · rfl
    · next hij => exact h j (by simpa [hj] using fun e : j = i => hij (e ▸ rfl))

/-- All sixteen rounds give the same halves and the same keys on every file (R134). -/
theorem scheduleAfter_roundIndices (k : MasterKey) (rk : RoundKeys) :
    (scheduleAfter k rk Config.roundIndices).2.2 = generateRoundKeys k :=
  congrArg (·.2.2) (foldl_ksTurn_congr _ _ _ fun j hj => absurd (mem_roundIndices j) hj)

/-- The KS step is a turn of generateRoundKeys's loop (R134, R138). -/
theorem ksNext_eq_ksTurn (s : State) : (s.ksNext.c, s.ksNext.d, s.ksNext.rk) = ksTurn (s.c, s.d, s.rk) s.rcnt := rfl

/-- ERR, the host's items and `unitOut` may change under the invariant, as long as ERR is not 3. -/
theorem State.ResultInv.with_err {h : History} {s : State} (hs : s.ResultInv h) {e : BitVec 2} (he : e ≠ errInvalidTable)
    (q : List Input) (y : Option UnitOut) : ({ s with err := e, inputs := q, unitOut := y } : State).ResultInv h :=
  ⟨hs.control.with_err he q y, hs.keys, hs.schedule, hs.job, hs.rounds, hs.result⟩

theorem resetEdge_resultInv (h : History) (s : State) : s.resetEdge.ResultInv h := by
  refine ⟨resetEdge_controlInv s, ?_, ?_, ?_, ?_, ?_⟩ <;> simp

/-- A new key starts on the file as it stands; the last block keeps the key it was accepted under (R60, R140). -/
theorem loadKey_resultInv {h : History} {s : State} (hs : s.ResultInv h) (k : MasterKey) :
    (s.loadKey k).ResultInv { h with key := k } := by
  refine ⟨loadKey_controlInv hs.control k, ?_, ?_, ?_, ?_, hs.result⟩
  · simp
  · exact fun _ => ⟨s.rk, rfl⟩
  · simp
  · simp

/-- A new block starts under the key loaded, with DONE = 0 (R187). -/
theorem start_resultInv {h : History} {s : State} (hs : s.ResultInv h) (x : Block) (dec : Bool)
    (key : s.keyValid = true) :
    (s.start x dec).ResultInv { h with block := x, dec := dec, blockKey := h.key } := by
  refine ⟨start_controlInv hs.control x dec key, hs.keys, ?_, ?_, ?_, ?_⟩
  · simp
  · exact fun _ => ⟨rfl, rfl⟩
  · exact fun _ => rfl
  · simp

/-- A KS step runs one round more; the sixteenth has written every entry of the file (R138). -/
theorem ksNext_resultInv {h : History} {s : State} (hs : s.ResultInv h) (hp : s.phase = .ks) :
    s.ksNext.ResultInv h := by
  obtain ⟨rk, hrk⟩ := hs.schedule hp
  have next : (s.ksNext.c, s.ksNext.d, s.ksNext.rk) = scheduleAfter h.key rk (roundsBefore s.rcnt ++ [s.rcnt]) := by
    rw [ksNext_eq_ksTurn, hrk, scheduleAfter_snoc]
  have control := ksNext_controlInv hs.control hp
  by_cases last : s.rcnt = 15#4
  · refine ⟨control, fun _ => ?_, ?_, ?_, ?_, hs.result⟩
    · rw [roundsBefore_last last] at next
      rw [← scheduleAfter_roundIndices h.key rk, ← next]
    · simp [last]
    · simp [last]
    · simp [last]
  · refine ⟨control, ?_, fun _ => ⟨rk, ?_⟩, ?_, ?_, hs.result⟩
    · simp [last, hs.control.ks_key hp]
    · rw [next, State.ksNext_rcnt, roundsBefore_succ last]
    · simp [last, hp]
    · simp [last, hp]

/-- A RND step runs one round more; the sixteenth writes the result of all (R186). -/
theorem rndNext_resultInv {h : History} {s : State} (hs : s.ResultInv h) (hp : s.phase = .rnd) :
    s.rndNext.ResultInv h := by
  obtain ⟨hkey, hdec⟩ := hs.job hp
  have next : s.roundHalves = cryptHalves h.block s.rk s.dec (roundsBefore s.rcnt ++ [s.rcnt]) := by
    rw [State.roundHalves, hs.rounds hp, cryptHalves_snoc]
  have control := rndNext_controlInv hs.control hp
  by_cases last : s.rcnt = 15#4
  · refine ⟨control, hs.keys, ?_, ?_, ?_, fun _ => ?_⟩
    · simp [last]
    · simp [last]
    · simp [last]
    · rw [roundsBefore_last last] at next
      rw [rndNext_dout_of_last last, next, ← crypt_eq_cryptHalves, hkey, hdec, hs.keys (hs.control.rnd_key hp)]
  · refine ⟨control, hs.keys, ?_, fun _ => ⟨hkey, hdec⟩, fun _ => ?_, ?_⟩
    · simp [last, hp]
    · rw [State.rndNext_rcnt, roundsBefore_succ last]
      exact next
    · simp [last, hs.control.rnd_done hp]

@[simp] theorem history_after_blockCommand (h : History) (dec : Bool) (x : Block) (kv : Bool) :
    h.after kv (.run (blockCommand dec x)) =
      if kv then { h with block := x, dec := dec, blockKey := h.key } else h := by
  cases dec <;> rfl

theorem history_after_reserved {i : Instr} (code : IsReserved i) (h : History) (kv : Bool) :
    h.after kv (.run i) = h := by
  obtain ⟨data, rfl | rfl | rfl | rfl⟩ := code <;> rfl

/-- Only commands are remembered. -/
theorem history_after_of_not_cmd {i : Instr} (hi : i.format ≠ .cmd) (h : History) (kv : Bool) :
    h.after kv (.run i) = h := by
  cases i with
  | nop | loadkey | encrypt | decrypt | reserved4 | reserved5 | reserved6 | reserved7 => exact absurd rfl hi
  | _ => rfl

/-- Every row keeps the invariant with the history after it, the sequencer's own steps in their own phase. -/
theorem Effect.keeps_resultInv {h : History} {s t : State} {i : Instr} (he : Effect s i t) (hs : s.ResultInv h)
    (hks : i = .ksStep → s.phase = .ks) (hrnd : i = .rndStep → s.phase = .rnd) :
    t.ResultInv (h.after s.keyValid (.run i)) := by
  have err := hs.control.err_code
  cases he with
  | nop => exact hs
  | loadkey k => exact loadKey_resultInv hs k
  | start dec x key =>
    rw [history_after_blockCommand, if_pos key]
    exact start_resultInv hs x dec key
  | noKey dec x key =>
    rw [history_after_blockCommand, key, if_neg Bool.false_ne_true]
    exact hs.with_err (raiseError_err_ne err (by decide)) _ _
  | reserved code =>
    rw [history_after_reserved code]
    exact hs.with_err (raiseError_err_ne err (by decide)) _ _
  | look format =>
    rw [history_after_of_not_cmd (by rintro e; simp [e] at format)]
    exact hs.with_err err _ _
  | ksStep => exact ksNext_resultInv hs (hks rfl)
  | rndStep => exact rndNext_resultInv hs (hrnd rfl)

/-- Settles O53: each effect keeps the invariant, with what the history remembers of the row. -/
theorem stepKeepsTheResultInvariant : Obligations.StepKeepsTheResultInvariant := by
  intro h s t hs hstep
  have hq : s.afterInput.ResultInv h := hs.with_err hs.control.err_code _ _
  obtain ⟨hw, rfl⟩ | ⟨hw, rfl⟩ | ⟨i, hw, he⟩ := step_effect hstep <;> rw [hw]
  · exact resetEdge_resultInv h _
  · exact hq
  · exact he.keeps_resultInv hq (fun e => phase_of_run_ksStep (s := s) (e ▸ hw))
      (fun e => phase_of_run_rndStep (s := s) (e ▸ hw))

/-- Settles O54: the reset state is one that a reset edge leaves as it is. -/
theorem resetMeetsTheResultInvariant : Obligations.ResetMeetsTheResultInvariant :=
  fun h => resetEdge_resultInv h State.reset

end Sys2Proof.Machine

/-! ### Whole runs: LOADKEY and a block command from acceptance to the sixteenth step (R138, R186, R246) -/

namespace Sys2Proof.Machine

/-- A core in IDLE accepts the command that is held, and uses the item up (R73, R81). -/
theorem step_of_hold {s : State} {op : BitVec 3} {data : BitVec 64} {q : List Input}
    (hq : s.inputs = .hold op data :: q) (hp : s.phase = .idle) :
    step s = exec (decodeOp op data) (s.setInputs q) := by
  have hpend := pending_hold hq
  have hw : work s = .run (decodeOp op data) := by
    rw [work_of_edge (by simp [hpend]), hpend, hp]
    rfl
  have rest : s.afterInput = s.setInputs q := by
    simp [State.afterInput, hpend, inputsAfter, State.busy, hp]
  rw [step_of_run hw, rest]

/-- The state in which the key schedule stands at `st`, with round `i` to come. -/
def State.inSchedule (st : KeyHalf × KeyHalf × RoundKeys) (i : RoundIndex) (s : State) : State :=
  { s with c := st.1, d := st.2.1, rk := st.2.2, rcnt := i }

/-- The state after the sixteenth KS step, the key schedule having ended at `st` (R138). -/
def State.keyReady (st : KeyHalf × KeyHalf × RoundKeys) (s : State) : State :=
  { s with c := st.1, d := st.2.1, rk := st.2.2, rcnt := 0, phase := .idle, keyValid := true }

/-- The state in which the halves of the block stand at `lr`, with round `i` to come. -/
def State.inRounds (lr : Half × Half) (i : RoundIndex) (s : State) : State :=
  { s with l := lr.1, r := lr.2, rcnt := i }

/-- The state after the sixteenth RND step, the halves having ended at `lr` (R186). -/
def State.blockReady (lr : Half × Half) (s : State) : State :=
  { s with l := lr.1, r := lr.2, rcnt := 0, phase := .idle, done := true, dout := fp (preOutput lr.1 lr.2) }

theorem ksNext_inSchedule {i : RoundIndex} (h : i ≠ 15#4) (st : KeyHalf × KeyHalf × RoundKeys) (s : State) :
    (s.inSchedule st i).ksNext = s.inSchedule (ksTurn st i) (i + 1) := by
  simp [State.ksNext, State.inSchedule, State.advance, State.finishKey, State.setKeyValid, State.writeRk,
    State.writeKeyHalves, ksTurn, h]

theorem ksNext_inSchedule_last {i : RoundIndex} (h : i = 15#4) (st : KeyHalf × KeyHalf × RoundKeys) (s : State) :
    (s.inSchedule st i).ksNext = s.keyReady (ksTurn st i) := by
  simp [State.ksNext, State.inSchedule, State.advance, State.finishKey, State.setKeyValid, State.writeRk,
    State.writeKeyHalves, State.keyReady, ksTurn, h]

theorem rndNext_inRounds {i : RoundIndex} (h : i ≠ 15#4) (lr : Half × Half) (s : State) :
    (s.inRounds lr i).rndNext = s.inRounds (cryptTurn s.rk s.dec lr i) (i + 1) := by
  simp [State.rndNext, State.roundHalves, State.inRounds, State.advance, State.finishBlock, State.setDone,
    State.writeDout, State.writeHalves, h]

theorem rndNext_inRounds_last {i : RoundIndex} (h : i = 15#4) (lr : Half × Half) (s : State) :
    (s.inRounds lr i).rndNext = s.blockReady (cryptTurn s.rk s.dec lr i) := by
  simp [State.rndNext, State.roundHalves, State.inRounds, State.advance, State.finishBlock, State.setDone,
    State.writeDout, State.writeHalves, State.blockReady, h]

theorem ofNat_ne_fifteen {n : Nat} (h : n < 15) : BitVec.ofNat 4 n ≠ 15#4 := by
  intro e
  have value : n % 16 = 15 := by simpa using congrArg BitVec.toNat e
  omega

/-! The host holds a command or presents nothing (R240). -/

section HeldRuns

variable {s : State} (hh : HeldOrNothing s.inputs)
include hh

theorem step_inSchedule (hp : s.phase = .ks) (st : KeyHalf × KeyHalf × RoundKeys) (i : RoundIndex) :
    step (s.inSchedule st i) = .next (s.inSchedule st i).ksNext :=
  step_in_ks (s := s.inSchedule st i) hh hp

theorem step_inRounds (hp : s.phase = .rnd) (lr : Half × Half) (i : RoundIndex) :
    step (s.inRounds lr i) = .next (s.inRounds lr i).rndNext :=
  step_in_rnd (s := s.inRounds lr i) hh hp

/-- The first KS steps: `n` rounds of the key schedule (R138). -/
theorem steps_ks (hp : s.phase = .ks) (h0 : s.rcnt = 0) {n : Nat} (hn : n < 16) :
    steps n s = .next
      (s.inSchedule ((Config.roundIndices.take n).foldl ksTurn (s.c, s.d, s.rk)) (BitVec.ofNat 4 n)) := by
  induction n with
  | zero =>
    rw [steps_zero, List.take_zero, List.foldl_nil, State.inSchedule, ← show s.rcnt = BitVec.ofNat 4 0 from h0]
  | succ n ih =>
    rw [steps_snoc (ih (by omega)), step_inSchedule hh hp, ksNext_inSchedule (ofNat_ne_fifteen (by omega)),
      roundIndices_take_succ n (by omega), List.foldl_append, BitVec.ofNat_add]
    rfl

/-- The sixteen KS steps: all rounds of the key schedule, KEY_VALID = 1 and IDLE (R138). -/
theorem steps_ks_sixteen (hp : s.phase = .ks) (h0 : s.rcnt = 0) :
    steps 16 s = .next (s.keyReady (Config.roundIndices.foldl ksTurn (s.c, s.d, s.rk))) := by
  rw [steps_snoc (steps_ks hh hp h0 (n := 15) (by omega)), step_inSchedule hh hp, ksNext_inSchedule_last rfl,
    ← roundsBefore_last rfl, List.foldl_append]
  rfl

/-- The first RND steps: `n` rounds on the halves (R186). -/
theorem steps_rnd (hp : s.phase = .rnd) (h0 : s.rcnt = 0) {n : Nat} (hn : n < 16) :
    steps n s = .next
      (s.inRounds ((Config.roundIndices.take n).foldl (cryptTurn s.rk s.dec) (s.l, s.r)) (BitVec.ofNat 4 n)) := by
  induction n with
  | zero =>
    rw [steps_zero, List.take_zero, List.foldl_nil, State.inRounds, ← show s.rcnt = BitVec.ofNat 4 0 from h0]
  | succ n ih =>
    rw [steps_snoc (ih (by omega)), step_inRounds hh hp, rndNext_inRounds (ofNat_ne_fifteen (by omega)),
      roundIndices_take_succ n (by omega), List.foldl_append, BitVec.ofNat_add]
    rfl

/-- The sixteen RND steps: all rounds on the halves, the result in DOUT, DONE = 1 and IDLE (R186). -/
theorem steps_rnd_sixteen (hp : s.phase = .rnd) (h0 : s.rcnt = 0) :
    steps 16 s = .next (s.blockReady (Config.roundIndices.foldl (cryptTurn s.rk s.dec) (s.l, s.r))) := by
  rw [steps_snoc (steps_rnd hh hp h0 (n := 15) (by omega)), step_inRounds hh hp, rndNext_inRounds_last rfl,
    ← roundsBefore_last rfl, List.foldl_append]
  rfl

end HeldRuns

/-- LOADKEY held in IDLE: after its acceptance and sixteen KS steps its round keys are loaded (R140, R246). -/
theorem steps_loadkey {s : State} {k : MasterKey} {q : List Input} (hq : s.inputs = .hold 0b001#3 k :: q)
    (hp : s.phase = .idle) (hh : HeldOrNothing q) :
    steps 17 s = .next ((s.setInputs q).keyReady (scheduleAfter k s.rk Config.roundIndices)) := by
  rw [steps_succ_of_next 16 (step_of_hold hq hp), steps_ks_sixteen hh rfl rfl]
  rfl

/-- A block command held in IDLE with KEY_VALID = 1: after its acceptance and sixteen RND steps its result stands in
DOUT (R190, R191, R246). -/
theorem steps_block {s : State} {x : Block} {dec : Bool} {q : List Input}
    (hq : s.inputs = .hold (if dec then 0b011#3 else 0b010#3) x :: q) (hp : s.phase = .idle) (key : s.keyValid = true)
    (hh : HeldOrNothing q) :
    steps 17 s = .next
      (((s.setInputs q).start x dec).blockReady (cryptHalves x s.rk dec Config.roundIndices)) := by
  have command : decodeOp (if dec then 0b011#3 else 0b010#3) x = blockCommand dec x := by cases dec <;> rfl
  have accepted : step s = .next ((s.setInputs q).start x dec) := by
    rw [step_of_hold hq hp, command]
    exact (Effect.start (s := s.setInputs q) dec x key).exec_eq
  rw [steps_succ_of_next 16 accepted, steps_rnd_sixteen hh rfl rfl]
  rfl

/-- Settles O28: 17 edges of LOADKEY leave the round keys of `k`, 17 of the block command the cipher under them. -/
theorem keyThenBlockGivesTheCipher : Obligations.KeyThenBlockGivesTheCipher := by
  intro s k x dec hp hq
  have keyed := steps_loadkey hq hp (.inr ⟨_, _, _, rfl⟩)
  refine ⟨_, (steps_add 17 keyed).trans (steps_block rfl rfl rfl (.inl rfl)), ?_, rfl, rfl, rfl, rfl, rfl⟩
  rw [← scheduleAfter_roundIndices k s.rk, crypt_eq_cryptHalves]
  rfl

end Sys2Proof.Machine

/-! ### Which step writes which register (R20 to R31), and what a step runs (R25) -/

namespace Sys2Proof.Machine

/-- Settles O43: the sequencer's own steps advance RCNT, and a command that starts a phase clears it. -/
theorem rcntCountsTheRounds : Obligations.RcntCountsTheRounds := by
  refine ⟨fun s t i hi h => ?_, fun s t i hi h started idle => ?_⟩
  · obtain rfl | rfl := hi <;> cases h <;>
      exact ⟨BitVec.toNat_add _ _, fun last => ⟨by simp [last], if_pos last⟩, fun more => if_neg more⟩
  · cases Effect.of_exec h with
    | loadkey | start => rfl
    | nop | noKey | reserved => simp [idle] at started
    | look format => simp [hi] at format
    | ksStep | rndStep => cases hi

/-- Only a block command that starts writes DEC (R27). -/
theorem Effect.dec_changes {s t : State} {i : Instr} (he : Effect s i t) (hdec : t.dec ≠ s.dec) :
    s.keyValid = true ∧ ∃ x, i = blockCommand t.dec x := by
  cases he with
  | start dec x key => exact ⟨key, x, rfl⟩
  | _ => exact absurd rfl hdec

/-- DEC has no part in what any row but the RND step does to the other registers (R27). -/
theorem Effect.with_dec {s t : State} {i : Instr} (he : Effect s i t) (hi : i ≠ .rndStep) (b : Bool) :
    ∃ b', Effect { s with dec := b } i { t with dec := b' } := by
  cases he with
  | nop data => exact ⟨b, .nop data⟩
  | loadkey k => exact ⟨b, .loadkey k⟩
  | start dec x key => exact ⟨dec, .start dec x key⟩
  | noKey dec x key => exact ⟨b, .noKey dec x key⟩
  | reserved code => exact ⟨b, .reserved code⟩
  | look format shows => exact ⟨b, .look format shows⟩
  | ksStep => exact ⟨b, .ksStep⟩
  | rndStep => exact absurd rfl hi

/-- Settles O44: DEC changes in `Effect.start` only, is read in `Effect.rndStep` only, and is what START writes. -/
theorem decIsTheDirection : Obligations.DecIsTheDirection := by
  refine ⟨fun s t h hdec => ?_, fun i s t b hi h => ?_, fun x s t key h => ?_⟩
  · obtain ⟨-, rfl⟩ | ⟨-, rfl⟩ | ⟨i, hw, he⟩ := step_effect h
    · exact absurd rfl hdec
    · exact absurd rfl hdec
    · obtain ⟨key, x, rfl⟩ := he.dec_changes hdec
      refine ⟨key, ?_⟩
      cases direction : t.dec <;> rw [direction] at hw
      · exact .inl ⟨x, hw, rfl⟩
      · exact .inr ⟨x, hw, rfl⟩
  · obtain ⟨b', he⟩ := (Effect.of_exec h).with_dec hi b
    exact ⟨b', he.exec_eq⟩
  · have started : exec (.encrypt x) s = .next (s.start x false) := (Effect.start false x key).exec_eq
    cases h.symm.trans started
    exact ⟨rfl, (Effect.start true x key).exec_eq⟩

/-- DOUT is written by the sixteenth RND step only (R24). -/
theorem Effect.dout_changes {s t : State} {i : Instr} (he : Effect s i t) (h : t.dout ≠ s.dout) :
    i = .rndStep ∧ s.rcnt = 15 ∧ t.done = true := by
  cases he with
  | rndStep =>
    by_cases last : s.rcnt = 15
    · exact ⟨rfl, last, if_pos last⟩
    · exact absurd (if_neg last) h
  | _ => exact absurd rfl h

/-- DONE is set by the sixteenth RND step only, which writes DOUT from the new halves and ends the phase (R28). -/
theorem Effect.done_set {s t : State} {i : Instr} (he : Effect s i t) (h0 : s.done = false) (h1 : t.done = true) :
    i = .rndStep ∧ s.rcnt = 15 ∧ t.phase = .idle ∧ t.dout = fp (t.r ++ t.l) := by
  cases he with
  | rndStep =>
    by_cases last : s.rcnt = 15
    · exact ⟨rfl, last, if_pos last, rndNext_dout_of_last last⟩
    · rw [State.rndNext_done, if_neg last, h0] at h1
      cases h1
  | start => cases h1
  | _ => cases h0.symm.trans h1

/-- DONE is cleared by a block command that starts only (R28). -/
theorem Effect.done_cleared {s t : State} {i : Instr} (he : Effect s i t) (h1 : s.done = true) (h0 : t.done = false) :
    s.keyValid = true ∧ ∃ dec x, i = blockCommand dec x := by
  cases he with
  | start dec x key => exact ⟨key, dec, x, rfl⟩
  | rndStep => simp [h1] at h0
  | _ => cases h1.symm.trans h0

/-- Settles O45: the last RND step sets DONE and writes DOUT, a block command that starts and reset clear DONE. -/
theorem doneAndDoutGoTogether : Obligations.DoneAndDoutGoTogether := by
  intro s t h
  obtain ⟨hw, rfl⟩ | ⟨-, rfl⟩ | ⟨i, hw, he⟩ := step_effect h
  · exact ⟨fun e => absurd rfl e, fun _ e => absurd e Bool.false_ne_true, fun _ _ => .inl hw⟩
  · exact ⟨fun e => absurd rfl e, fun h0 h1 => (by cases h0.symm.trans h1), fun h1 h0 => (by cases h1.symm.trans h0)⟩
  · refine ⟨fun e => ?_, fun h0 h1 => ?_, fun h1 h0 => .inr ?_⟩
    · obtain ⟨rfl, last, done⟩ := he.dout_changes e
      exact ⟨phase_of_run_rndStep hw, last, done⟩
    · obtain ⟨rfl, last, ends⟩ := he.done_set h0 h1
      exact ⟨phase_of_run_rndStep hw, last, ends⟩
    · obtain ⟨key, dec, x, rfl⟩ := he.done_cleared h1 h0
      exact ⟨key, run_encrypt_or_decrypt hw⟩

/-- An error entry that changes ERR found it 0 and leaves the code (R206). -/
theorem raiseError_changes {s : State} {code : BitVec 2} (h : (s.raiseError code).err ≠ s.err) :
    s.err = 0 ∧ (s.raiseError code).err = code := by
  by_cases none_yet : s.err = 0
  · exact ⟨none_yet, if_pos none_yet⟩
  · exact absurd (if_neg none_yet) h

/-- ERR is changed from 0 only, by a reserved code or a block command with no key, and nothing else is (R206). -/
theorem Effect.err_changes {s t : State} {i : Instr} (he : Effect s i t) (h : t.err ≠ s.err) :
    s.err = 0 ∧ t = { s with err := t.err } ∧
      ((t.err = errInvalidMode ∧ IsReserved i) ∨
        (t.err = errKeyNotLoaded ∧ s.keyValid = false ∧ ∃ dec x, i = blockCommand dec x)) := by
  cases he with
  | noKey dec x key =>
    obtain ⟨none_yet, code⟩ := raiseError_changes h
    exact ⟨none_yet, rfl, .inr ⟨code, key, dec, x, rfl⟩⟩
  | reserved isReserved =>
    obtain ⟨none_yet, code⟩ := raiseError_changes h
    exact ⟨none_yet, rfl, .inl ⟨code, isReserved⟩⟩
  | _ => exact absurd rfl h

/-- Settles O46: away from reset ERR changes as `Effect.err_changes` says, at an accepted command. -/
theorem firstErrorIsKept : Obligations.FirstErrorIsKept := by
  intro s t h hreset
  obtain ⟨hw, -⟩ | ⟨-, rfl⟩ | ⟨i, hw, he⟩ := step_effect h
  · exact absurd hw hreset
  · exact ⟨fun _ => rfl, fun e => absurd rfl e⟩
  · refine ⟨fun recorded => ?_, fun e => ?_⟩
    · by_contra e
      obtain ⟨none_yet, -⟩ := he.err_changes e
      exact recorded none_yet
    · obtain ⟨none_yet, rest, ⟨code, isReserved⟩ | ⟨code, key, dec, x, rfl⟩⟩ := he.err_changes e
      · refine ⟨none_yet, rest, phase_of_run_cmd hw isReserved.format_eq, .inl ⟨code, ?_⟩⟩
        obtain ⟨data, hi⟩ := isReserved
        exact ⟨data, by simpa [hw] using hi⟩
      · exact ⟨none_yet, rest, phase_of_run_cmd hw (blockCommand_format dec x),
          .inr ⟨code, key, run_encrypt_or_decrypt hw⟩⟩

/-- L and R are written by the RND step and a block command that starts only (R21). -/
theorem Effect.halves_change {s t : State} {i : Instr} (he : Effect s i t) (h : t.l ≠ s.l ∨ t.r ≠ s.r) :
    i = .rndStep ∨ (s.keyValid = true ∧ ∃ dec x, i = blockCommand dec x) := by
  cases he with
  | rndStep => exact .inl rfl
  | start dec x key => exact .inr ⟨key, dec, x, rfl⟩
  | _ => simp at h

/-- C and D are written by the KS step and LOADKEY only (R22). -/
theorem Effect.keyHalves_change {s t : State} {i : Instr} (he : Effect s i t) (h : t.c ≠ s.c ∨ t.d ≠ s.d) :
    i = .ksStep ∨ ∃ k, i = .loadkey k := by
  cases he with
  | ksStep => exact .inl rfl
  | loadkey k => exact .inr ⟨k, rfl⟩
  | _ => simp at h

/-- An entry of the round-key file is written by its own KS step only (R23). -/
theorem Effect.rk_changes {s t : State} {i : Instr} (he : Effect s i t) {j : RoundIndex}
    (h : t.rk[j.toNat] ≠ s.rk[j.toNat]) : i = .ksStep ∧ j = s.rcnt := by
  cases he with
  | ksStep =>
    refine ⟨rfl, ?_⟩
    by_contra other
    exact h (Vector.getElem_set_ne s.rcnt.isLt j.isLt fun e => other (BitVec.eq_of_toNat_eq e.symm))
  | _ => exact absurd rfl h

/-- Settles O56: the step that changes a data register is one that writes it. -/
theorem registersAreWrittenOnlyByTheirSteps : Obligations.RegistersAreWrittenOnlyByTheirSteps := by
  intro s t h
  obtain ⟨-, rfl⟩ | ⟨-, rfl⟩ | ⟨i, hw, he⟩ := step_effect h
  · simp
  · simp
  · refine ⟨fun e => ?_, fun e => ?_, fun j e => ?_, fun e => ?_⟩
    · obtain rfl | ⟨key, dec, x, rfl⟩ := he.halves_change e
      · exact .inl hw
      · exact .inr ⟨key, run_encrypt_or_decrypt hw⟩
    · obtain rfl | ⟨k, rfl⟩ := he.keyHalves_change e
      · exact .inl hw
      · exact .inr ⟨k, hw⟩
    · obtain ⟨rfl, own⟩ := he.rk_changes e
      exact ⟨hw, own⟩
    · obtain ⟨rfl, last, -⟩ := he.dout_changes e
      exact ⟨hw, last⟩

/-- The command on the ports is what its CMDW decodes to (R72). -/
theorem decode_cmd_append (op : BitVec 3) (data : BitVec 64) : decode .cmd (op ++ data) = .ok (decodeOp op data) := by
  have high : (op ++ data).extractLsb' 64 3 = op := BitVec.extractLsb'_append_eq_left
  have low : (op ++ data).extractLsb' 0 64 = data := BitVec.extractLsb'_append_eq_right
  simp only [decode, decodeCmd, high, low]

/-- Settles O34: with no unit looked at, a step is the dispatch of its edge. -/
theorem stepRunsTheDispatchedRow : Obligations.StepRunsTheDispatchedRow := by
  intro s hu
  have dispatch := work_of_edge hu
  refine ⟨fun rst => step_of_reset ?_, fun rst => ⟨fun hp valid i hi => ?_, fun hp valid => step_of_stay ?_,
    fun hp => step_of_run ?_, fun hp => step_of_run ?_, fun hp => ?_⟩⟩
  · simp [dispatch, workAtEdge, rst]
  · rw [decode_cmd_append] at hi
    cases hi
    apply step_of_run
    simp [dispatch, workAtEdge, rst, hp, valid]
  · simp [dispatch, workAtEdge, rst, hp, valid]
  · simp [dispatch, workAtEdge, rst, hp]
  · simp [dispatch, workAtEdge, rst, hp]
  · have stuck : work s = .stuck := by simp [dispatch, workAtEdge, rst, hp]
    simp [step, stuck]

/-- Settles O35: PHASE by PHASE, its two bits as a STEP word. -/
theorem stepRowsAreSelectedByPhase : Obligations.StepRowsAreSelectedByPhase := by
  refine ⟨fun p ph i rst busy => ?_, fun ph hph => ?_⟩
  · cases ph with
    | idle => exact absurd rfl busy
    | ks =>
      have word : decode .step (Phase.ks.code.setWidth 67) = .ok .ksStep := by decide
      simp [workAtEdge, rst, word]
    | rnd =>
      have word : decode .step (Phase.rnd.code.setWidth 67) = .ok .rndStep := by decide
      simp [workAtEdge, rst, word]
    | phase3 =>
      have word : decode .step (Phase.phase3.code.setWidth 67) = .error .noStep := by decide
      simp [workAtEdge, rst, word]
  · obtain rfl | rfl := hph <;> decide

/-- STATUS is ERR, DONE, KEY_VALID and `busy` side by side, whatever they are (R33). -/
theorem status_fields : ∀ (err : BitVec 2) (done keyValid busy : Bool),
    let status : BitVec 5 := err ++ BitVec.ofBool done ++ BitVec.ofBool keyValid ++ BitVec.ofBool busy
    status.getLsbD 0 = busy ∧ status.getLsbD 1 = keyValid ∧ status.getLsbD 2 = done ∧ status.extractLsb' 3 2 = err := by
  decide

/-- Settles O42: `busy` and `cmd_ready` test PHASE, and STATUS is its four fields side by side. -/
theorem outputsAreViewsOfTheRegisters : Obligations.OutputsAreViewsOfTheRegisters := by
  refine ⟨fun s => ⟨?_, ?_, status_fields s.err s.done s.keyValid s.busy⟩, rfl⟩
  · simp [State.busy]
  · simp [State.busy, State.cmdReady, bne]

end Sys2Proof.Machine

/-! ### The block command by its operands: independence of the past (R64, R189), and the big-endian words (R52) -/

namespace Sys2Proof.Machine

/-- Sixteen steps after START every round has run on the two halves of IP(X), with the RK found at the start (R186). -/
theorem steps_start {s : State} (hh : HeldOrNothing s.inputs) (x : Block) (dec : Bool) :
    steps 16 (s.start x dec) = .next ((s.start x dec).blockReady (cryptHalves x s.rk dec Config.roundIndices)) :=
  steps_rnd_sixteen (s := s.start x dec) hh rfl rfl

/-- The result of a block command is CRYPT of its block under RK in its direction: no other register enters (R189). -/
theorem blockCommand_result {s : State} (hh : HeldOrNothing s.inputs) (key : s.keyValid = true) (x : Block)
    (dec : Bool) :
    ∃ t u, exec (blockCommand dec x) s = .next t ∧ steps 16 t = .next u ∧ u.dout = crypt x s.rk dec ∧ u.done = true :=
  ⟨_, _, (Effect.start dec x key).exec_eq, steps_start hh x dec, (crypt_eq_cryptHalves x s.rk dec).symm, rfl⟩

/-- Settles O29: both results are CRYPT of the one block under the one RK. -/
theorem blocksAreIndependent : Obligations.BlocksAreIndependent := by
  intro s s' x dec key key' hrk hh hh'
  obtain ⟨t, u, accepted, run, result, done⟩ := blockCommand_result hh key x dec
  obtain ⟨t', u', accepted', run', result', done'⟩ := blockCommand_result hh' key' x dec
  have agree : u.dout = u'.dout := by rw [result, result', hrk]
  exact ⟨t, t', u, u', accepted, accepted', run, run', agree, done, done'⟩

/-- Byte `j` counted from the top is byte `j` in file order (R52): the bytes below it are dropped, then those above. -/
theorem wordOfBytes_byte (b : Vector (BitVec 8) 8) (j : Fin 8) :
    (wordOfBytes b).extractLsb' (56 - 8 * j.val) 8 = b[j] := by
  -- The width is written as the sum that the `++` of `wordOfBytes` builds, since the lemmas about `++` match on a sum.
  change BitVec.extractLsb' (n := 8 + 8 + 8 + 8 + 8 + 8 + 8 + 8) _ 8 (wordOfBytes b) = b[j]
  fin_cases j <;>
    simp (disch := omega) only [wordOfBytes, BitVec.extractLsb'_append_eq_of_le,
      BitVec.extractLsb'_append_eq_of_add_le] <;>
    exact BitVec.extractLsb'_eq_self

/-- Digit `j` counted from the top is digit `j` in text order (R52), by the argument of `wordOfBytes_byte`. -/
theorem wordOfHex_digit (h : Vector (BitVec 4) 16) (j : Fin 16) :
    (wordOfHex h).extractLsb' (60 - 4 * j.val) 4 = h[j] := by
  change BitVec.extractLsb' (n := 4 + 4 + 4 + 4 + 4 + 4 + 4 + 4 + 4 + 4 + 4 + 4 + 4 + 4 + 4 + 4) _ 4 (wordOfHex h) = h[j]
  fin_cases j <;>
    simp (disch := omega) only [wordOfHex, BitVec.extractLsb'_append_eq_of_le,
      BitVec.extractLsb'_append_eq_of_add_le] <;>
    exact BitVec.extractLsb'_eq_self

/-- Settles O17: the bytes, then the hexadecimal digits. -/
theorem keysAndBlocksAreBigEndian : Obligations.KeysAndBlocksAreBigEndian :=
  ⟨wordOfBytes_byte, wordOfHex_digit⟩

end Sys2Proof.Machine

/-! ### Words and instructions: the decoder and the encoder are inverse to each other (R72, R78 to R80)

A word of format TSEL, SADDR or ROT is an operand above a code, `(x ++ code).setWidth 67`. What `operandAt` reads from
such a word, and which words it reads, is said once; the formats differ in the width of the code only. -/

namespace Sys2Proof.Machine

/-- The code is read back from below the operand. -/
theorem code_of_word {n lo : Nat} (x : BitVec n) (code : BitVec lo) (fits : lo ≤ 67) :
    ((x ++ code).setWidth 67).extractLsb' 0 lo = code := by
  rw [BitVec.extractLsb'_setWidth_of_le (by omega), BitVec.extractLsb'_append_eq_right]

/-- The operand is read back from above the code. -/
theorem operandAt_word {n lo : Nat} (x : BitVec n) (code : BitVec lo) (fits : lo + n ≤ 67) :
    operandAt ((x ++ code).setWidth 67) lo n = .ok x := by
  have short : ((x ++ code).setWidth 67).toNat < 2 ^ (lo + n) :=
    Nat.add_comm n lo ▸ Laws.EncodeWidth.setWidth_lt (x ++ code)
  rw [operandAt, if_pos short, BitVec.extractLsb'_setWidth_of_le fits, BitVec.extractLsb'_append_eq_left]

/-- A word from which an operand is read is that operand above the word's own code. -/
theorem word_of_operandAt {w : InstrWord} {lo n : Nat} {x : BitVec n} (h : operandAt w lo n = .ok x) :
    w = (x ++ w.extractLsb' 0 lo).setWidth 67 := by
  unfold operandAt at h
  split at h
  · next short =>
    cases h
    rw [BitVec.extractLsb'_append_extractLsb'_eq_extractLsb' (Nat.zero_add lo).symm]
    apply BitVec.eq_of_toNat_eq
    rw [Nat.add_comm] at short
    simp [Nat.mod_eq_of_lt short, Nat.mod_eq_of_lt w.isLt]
  · cases h

/-- A word of a format that has no code is its operand (R79, R25). -/
theorem word_of_bare_operandAt {w : InstrWord} {n : Nat} {x : BitVec n} (h : operandAt w 0 n = .ok x) :
    w = x.setWidth 67 := by
  have word := word_of_operandAt h
  rwa [Subsingleton.elim (w.extractLsb' 0 0) (0#0), BitVec.append_zero_width] at word

/-- A row read from a word by its operand has that word for its own, if its words have the word's code. -/
theorem word_of_row {w : InstrWord} {f : Format} {lo n : Nat} {code : BitVec lo} {row : BitVec n → Instr} {i : Instr}
    (own : ∀ x, (row x).format = f ∧ encode (row x) = (x ++ code).setWidth 67) (hc : w.extractLsb' 0 lo = code)
    (h : (operandAt w lo n).map row = .ok i) : i.format = f ∧ encode i = w := by
  cases hx : operandAt w lo n with
  | error e => rw [hx] at h; cases h
  | ok x =>
    rw [hx] at h
    cases h
    rw [(own x).2, ← hc, ← word_of_operandAt hx]
    exact ⟨(own x).1, rfl⟩

/-- The eight values of a 3-bit code: `op` (R74) or `tsel` (R78). -/
theorem code3_cases : ∀ c : BitVec 3,
    c = 0b000#3 ∨ c = 0b001#3 ∨ c = 0b010#3 ∨ c = 0b011#3 ∨ c = 0b100#3 ∨ c = 0b101#3 ∨ c = 0b110#3 ∨ c = 0b111#3 := by
  decide

/-- A TSEL word is decoded by its own code, with its own operand (R78). -/
theorem decode_tselWord {n : Nat} (tsel : BitVec 3) (x : BitVec n) :
    decode .tsel (tselWord tsel x) = decodeSelector tsel (tselWord tsel x) := by
  have code : (tselWord tsel x).extractLsb' 0 3 = tsel := code_of_word x tsel (by omega)
  rw [decode, decodeTsel, code]

/-- The operand of a TSEL word, at the width the code's table reads. -/
theorem operandAt_tselWord {n : Nat} (tsel : BitVec 3) (x : BitVec n) (fits : n ≤ 64) :
    operandAt (tselWord tsel x) 3 n = .ok x :=
  operandAt_word x tsel (by omega)

/-- A SADDR word is its address, read in three parts (R79). -/
theorem decode_saddr_word (i : BitVec 3) (row : BitVec 2) (col : BitVec 4) :
    decode .saddr ((i ++ row ++ col).setWidth 67) = .ok (.sbox i row col) := by
  have operand : operandAt ((i ++ row ++ col).setWidth 67) 0 9 = .ok (i ++ row ++ col) := by
    simpa using operandAt_word (i ++ row ++ col) (0#0) (by omega)
  have box : (i ++ row ++ col).extractLsb' 6 3 = i := by
    rw [BitVec.extractLsb'_append_eq_of_le (by omega)]
    exact BitVec.extractLsb'_append_eq_left
  have row' : (i ++ row ++ col).extractLsb' 4 2 = row := by
    rw [BitVec.extractLsb'_append_eq_of_le (by omega)]
    exact BitVec.extractLsb'_append_eq_right
  have col' : (i ++ row ++ col).extractLsb' 0 4 = col := BitVec.extractLsb'_append_eq_right
  rw [decode, decodeSaddr, operand, Except.map, box, row', col']

/-- A ROT word is decoded by its bit 0, with its own operand (R80). -/
theorem decode_rot_word (x : BitVec 28) (amount2 : Bool) :
    decode .rot ((x ++ BitVec.ofBool amount2).setWidth 67) = .ok (if amount2 then .rotl28By2 x else .rotl28By1 x) := by
  have code : ((x ++ BitVec.ofBool amount2).setWidth 67).getLsbD 0 = amount2 := by
    simpa using congrArg (·.getLsbD 0) (code_of_word x (BitVec.ofBool amount2) (by omega))
  rw [decode, decodeRot, operandAt_word x _ (by omega), code]
  rfl

/-- Settles O32: format by format, the code and the operand are read back from the word. -/
theorem decodeOfEncode : Obligations.DecodeOfEncode := by
  intro i
  cases i with
  | nop data | loadkey data | encrypt data | decrypt data => exact decode_cmd_append _ data
  | reserved4 data | reserved5 data | reserved6 data | reserved7 data => exact decode_cmd_append _ data
  | ip x | fp x | e x | p x | pc1c x | pc1d x | pc2 x =>
    refine (decode_tselWord _ x).trans ?_
    rw [decodeSelector, operandAt_tselWord _ x (by omega)]
    rfl
  | tselReserved7 => decide
  | sbox i row col => exact decode_saddr_word i row col
  | rotl28By1 x => exact decode_rot_word x false
  | rotl28By2 x => exact decode_rot_word x true
  | ksStep | rndStep => decide

/-- The word of the command that `op` and `data` are is `op ‖ data` (R72, R74). -/
theorem encode_decodeOp (op : BitVec 3) (data : BitVec 64) : encode (decodeOp op data) = cmdWord op data := by
  obtain rfl | rfl | rfl | rfl | rfl | rfl | rfl | rfl := code3_cases op <;> rfl

/-- Every command word is the word of the command it decodes to (R75). -/
theorem encode_decodeCmd (w : InstrWord) : encode (decodeCmd w) = w := by
  rw [decodeCmd, encode_decodeOp, cmdWord, BitVec.extractLsb'_append_extractLsb'_eq_extractLsb' (Nat.zero_add 64).symm]
  exact BitVec.extractLsb'_eq_self

/-- The row a code of `tsel` selects has the word it is read from for its own (R78). -/
theorem word_of_decodeSelector {tsel : BitVec 3} {w : InstrWord} {i : Instr} (hc : w.extractLsb' 0 3 = tsel)
    (h : decodeSelector tsel w = .ok i) : i.format = .tsel ∧ encode i = w := by
  obtain rfl | rfl | rfl | rfl | rfl | rfl | rfl | rfl := code3_cases tsel
  -- `tsel` = 111 has an operand of no bits (R78).
  on_goal 8 => exact word_of_row (by decide) hc h
  all_goals exact word_of_row (fun _ => ⟨rfl, rfl⟩) hc h

/-- The row a SADDR word decodes to has that word for its own (R79). -/
theorem word_of_decodeSaddr {w : InstrWord} {i : Instr} (h : decodeSaddr w = .ok i) :
    i.format = .saddr ∧ encode i = w := by
  refine word_of_row (fun a => ⟨rfl, ?_⟩) (Subsingleton.elim _ (0#0)) h
  have parts : a.extractLsb' 6 3 ++ a.extractLsb' 4 2 ++ a.extractLsb' 0 4 = a := by
    rw [BitVec.extractLsb'_append_extractLsb'_eq_extractLsb' (show 6 = 4 + 2 from rfl),
      BitVec.extractLsb'_append_extractLsb'_eq_extractLsb' (Nat.zero_add 4).symm]
    exact BitVec.extractLsb'_eq_self
  rw [encode, parts, BitVec.append_zero_width]

/-- The row a ROT word decodes to has that word for its own (R80). -/
theorem word_of_decodeRot {w : InstrWord} {i : Instr} (h : decodeRot w = .ok i) : i.format = .rot ∧ encode i = w := by
  have code : w.extractLsb' 0 1 = BitVec.ofBool (w.getLsbD 0) := by
    ext j hj
    obtain rfl : j = 0 := by omega
    simp
  refine word_of_row (fun x => ?_) code h
  cases w.getLsbD 0 <;> exact ⟨rfl, rfl⟩

/-- A STEP word that selects a step is that step's word (R25). -/
theorem word_of_decodeStep {w : InstrWord} {i : Instr} (h : decodeStep w = .ok i) : i.format = .step ∧ encode i = w := by
  unfold decodeStep at h
  split at h
  · next hx => cases h; exact ⟨rfl, (word_of_bare_operandAt hx).symm⟩
  · next hx => cases h; exact ⟨rfl, (word_of_bare_operandAt hx).symm⟩
  · cases h
  · cases h

/-- Settles O33: format by format, the row read from a word has that word for its own. -/
theorem encodeOfDecode : Obligations.EncodeOfDecode := by
  intro f w i h
  cases f with
  | cmd => cases h; exact ⟨decodeOp_format _ _, encode_decodeCmd w⟩
  | tsel => exact word_of_decodeSelector rfl h
  | saddr => exact word_of_decodeSaddr h
  | rot => exact word_of_decodeRot h
  | step => exact word_of_decodeStep h

/-- Settles O30: these are the words of the eight commands. -/
theorem opcodeMapOfTheCommands : Obligations.OpcodeMapOfTheCommands := fun data =>
  ⟨decodeOfEncode (.nop data), decodeOfEncode (.loadkey data), decodeOfEncode (.encrypt data),
    decodeOfEncode (.decrypt data), decodeOfEncode (.reserved4 data), decodeOfEncode (.reserved5 data),
    decodeOfEncode (.reserved6 data), decodeOfEncode (.reserved7 data)⟩

/-- No edge runs a row of format TSEL: what it runs is a command or a step of the sequencer (R25). -/
theorem workAtEdge_run_not_tsel {p : Pins} {ph : Phase} {i : Instr} (h : workAtEdge p ph = .run i) :
    i.format ≠ .tsel := by
  obtain ⟨-, ⟨-, -, rfl⟩ | ⟨-, rfl⟩ | ⟨-, rfl⟩⟩ := workAtEdge_run h
  · simp [decodeOp_format]
  · simp [Instr.format]
  · simp [Instr.format]

/-- Settles O6: the words are those of the seven rows and of TSEL_RESERVED_7, which no edge runs. -/
theorem tselCodesSelectTheirRows : Obligations.TselCodesSelectTheirRows :=
  ⟨fun x => ⟨decodeOfEncode (.ip x), decodeOfEncode (.fp x), decodeOfEncode (.pc1c x), decodeOfEncode (.pc1d x)⟩,
    fun x => ⟨decodeOfEncode (.e x), decodeOfEncode (.p x)⟩, fun x => decodeOfEncode (.pc2 x),
    decodeOfEncode .tselReserved7, fun _ => rfl, fun _ _ _ => workAtEdge_run_not_tsel⟩

/-- Every S-box address exists, and `sBoxEntry` is the table's value there (R160). -/
theorem sBoxEntry_of_tables (i : BitVec 3) (row : BitVec 2) (col : BitVec 4) :
    ((sBoxTables[i.toNat]?.bind (·[row.toNat]?)).bind (·[col.toNat]?)) = some (sBoxEntry i row col) := by
  simp [sBoxEntry, i.isLt, row.isLt, col.isLt]

/-- The row and the column of a chunk as numbers: its outer bits and its inner bits (R79, R150). -/
theorem chunk_address : ∀ c : Chunk,
    (sBoxRow c).toNat = 2 * (c.toNat >>> 5) + (c.toNat &&& 1) ∧ (sBoxCol c).toNat = (c.toNat >>> 1) &&& 15 := by
  decide

/-- Settles O7: the look-up, the word of the row, and the address of a chunk. -/
theorem sboxRowReadsTheAddressedEntry : Obligations.SboxRowReadsTheAddressedEntry := by
  refine ⟨fun i row col s => ⟨sBoxEntry i row col, sBoxEntry_of_tables i row col, rfl⟩, decode_saddr_word, fun i c => ?_⟩
  obtain ⟨row, col⟩ := chunk_address c
  exact ⟨sBoxRow c, sBoxCol c, row, col, rfl⟩

/-- A row of the opcode table whose width tells its format is read back from its word as a number. -/
theorem decodeTableWord_of_encode {nbits w : Nat} (i : Instr) (hf : formatOfBits nbits = some i.format)
    (hw : w = (encode i).toNat) : decodeTableWord nbits w = some i := by
  have fits : (encode i).toNat < 2 ^ 67 := (encode i).isLt
  simp only [decodeTableWord, hf, hw, if_pos fits, BitVec.ofNat_toNat, BitVec.setWidth_eq]
  rw [decodeOfEncode i]
  rfl

/-- Settles O31: each number is the word of the row named beside it. -/
theorem knownWordsDecode : Obligations.KnownWordsDecode :=
  ⟨decodeTableWord_of_encode _ rfl (by decide), decodeTableWord_of_encode _ rfl (by decide),
    decodeTableWord_of_encode _ rfl (by decide), decodeTableWord_of_encode _ rfl (by decide),
    decodeTableWord_of_encode _ rfl (by decide), decodeTableWord_of_encode _ rfl (by decide),
    decodeTableWord_of_encode _ rfl (by decide), decodeTableWord_of_encode _ rfl (by decide)⟩

end Sys2Proof.Machine

/-! ### Commands at the port: what is accepted, what waits, and what is not looked at (R73, R76, R81, R82) -/

namespace Sys2Proof.Machine

/-- A step is its work, on the state its input leaves. -/
theorem step_congr {s t : State} (hw : work s = work t) (ha : s.afterInput = t.afterInput) : step s = step t := by
  simp only [step, hw, ha]

/-- The items that come to the next step determine its work and what is left of them. -/
theorem step_of_same_pending {s : State} {q : List Input} (h : (s.setInputs q).pending = s.pending) :
    step (s.setInputs q) = step s := by
  apply step_congr
  · unfold work
    rw [h]
    rfl
  · unfold State.afterInput
    rw [h]
    rfl

/-- WAIT is over in IDLE, and takes no edge there (R82). -/
theorem step_wait_idle {s : State} {q : List Input} (hq : s.inputs = .wait :: q) (hp : s.phase = .idle) :
    step s = step (s.setInputs q) := by
  refine (step_of_same_pending ?_).symm
  simp [State.pending, State.busy, hp, hq]

/-- At a busy edge without reset that uses up no item, the sequencer's own step runs and leaves the items (R25, R73). -/
theorem step_busy_keeps_inputs {s : State} (hp : s.phase = .ks ∨ s.phase = .rnd)
    (edge : ∀ u w q, s.inputs ≠ .unit u w :: q) (rst : (pinsOf s.inputs).rst = false)
    (stays : inputsAfter true s.inputs = s.inputs) : ∃ t, step s = .next t ∧ t.inputs = s.inputs := by
  have hb : s.busy = true := by
    obtain hp | hp := hp <;> simp [State.busy, hp]
  have hpend : s.pending = s.inputs := pending_of_busy hb
  have hin : s.afterInput.inputs = s.inputs := by rw [State.afterInput_inputs, hb, hpend, stays]
  have dispatch : work s = workAtEdge (pinsOf s.inputs) s.phase := by
    rw [work_of_edge (by rwa [hpend]), hpend]
  obtain hp | hp := hp
  · have hw : work s = .run .ksStep := by simp [dispatch, workAtEdge, rst, hp]
    exact ⟨_, (step_of_run hw).trans Effect.ksStep.exec_eq, hin⟩
  · have hw : work s = .run .rndStep := by simp [dispatch, workAtEdge, rst, hp]
    exact ⟨_, (step_of_run hw).trans Effect.rndStep.exec_eq, hin⟩

/-- Settles O37: the held command in IDLE and in a busy core, then WAIT in both. -/
theorem heldCommandWaitsForIdle : Obligations.HeldCommandWaitsForIdle := by
  intro s op data q
  refine ⟨fun hq hp i hi => ?_, fun hq hp => ?_, fun hq hp => step_wait_idle hq hp, fun hq hp => ?_⟩
  · rw [decode_cmd_append] at hi
    cases hi
    exact step_of_hold hq hp
  · exact step_busy_keeps_inputs hp (by simp [hq]) (by rw [hq]; rfl) (by rw [hq]; rfl)
  · exact step_busy_keeps_inputs hp (by simp [hq]) (by rw [hq]; rfl) (by rw [hq]; rfl)

/-- An edge that accepts no command does not look at the command inputs (R73). -/
theorem workAtEdge_of_not_accepting {p p' : Pins} {ph : Phase} (same : p.rst = p'.rst)
    (h : p.rst = true ∨ ph ≠ .idle ∨ (p.cmdValid = false ∧ p'.cmdValid = false)) :
    workAtEdge p ph = workAtEdge p' ph := by
  unfold workAtEdge
  rw [← same]
  obtain rst | busy | ⟨none, none'⟩ := h
  · simp [rst]
  · cases ph with
    | idle => exact absurd rfl busy
    | ks | rnd | phase3 => rfl
  · simp [none, none']

/-- Settles O57: the two edges do the same work and use their items up alike. -/
theorem unacceptedCommandsAreNotLookedAt : Obligations.UnacceptedCommandsAreNotLookedAt := by
  intro s p p' q same h
  have pend (e : Pins) : ({ s with inputs := .edge e :: q } : State).pending = .edge e :: q := pending_edge rfl
  apply step_congr
  · rw [work_of_edge (by simp [pend]), work_of_edge (by simp [pend]), pend, pend]
    exact workAtEdge_of_not_accepting same h
  · unfold State.afterInput
    rw [pend, pend]
    rfl

/-- What `op` commands, by the classes of execute(op, data) (R76). -/
theorem decodeOp_cases (op : BitVec 3) (data : BitVec 64) :
    (op = 0b000#3 ∧ decodeOp op data = .nop data) ∨ (op = 0b001#3 ∧ decodeOp op data = .loadkey data) ∨
      ((op = 0b010#3 ∨ op = 0b011#3) ∧ ∃ dec, decodeOp op data = blockCommand dec data) ∨
      (op.getLsbD 2 = true ∧ IsReserved (decodeOp op data)) := by
  obtain rfl | rfl | rfl | rfl | rfl | rfl | rfl | rfl := code3_cases op
  · exact .inl ⟨rfl, rfl⟩
  · exact .inr (.inl ⟨rfl, rfl⟩)
  · exact .inr (.inr (.inl ⟨.inl rfl, false, rfl⟩))
  · exact .inr (.inr (.inl ⟨.inr rfl, true, rfl⟩))
  · exact .inr (.inr (.inr ⟨rfl, data, .inl rfl⟩))
  · exact .inr (.inr (.inr ⟨rfl, data, .inr (.inl rfl)⟩))
  · exact .inr (.inr (.inr ⟨rfl, data, .inr (.inr (.inl rfl))⟩))
  · exact .inr (.inr (.inr ⟨rfl, data, .inr (.inr (.inr rfl))⟩))

/-- With no error recorded, the error entry records its code (R206). -/
theorem raiseError_err_of_none {s : State} {code : BitVec 2} (h : s.err = 0) : (s.raiseError code).err = code :=
  if_pos h

/-- A block command is not of the reserved half of the opcode map (R75). -/
theorem block_op_bit2 {op : BitVec 3} (h : op = 0b010#3 ∨ op = 0b011#3) : op.getLsbD 2 = false := by
  obtain rfl | rfl := h <;> rfl

/-- Settles O41: class by class of execute(op, data), the error the command raises. -/
theorem noCommandRaisesBothErrors : Obligations.NoCommandRaisesBothErrors := by
  intro op data i s t hi none_yet ht
  rw [decode_cmd_append] at hi
  cases hi
  obtain ⟨rfl, row⟩ | ⟨rfl, row⟩ | ⟨hop, dec, row⟩ | ⟨hop, row⟩ := decodeOp_cases op data
  · rw [row] at ht
    have err : t.err = 0 := by cases ht; exact none_yet
    simp [err]
  · rw [row] at ht
    have err : t.err = 0 := by cases ht; exact none_yet
    simp [err]
  · rw [row, exec_blockCommand] at ht
    cases key : s.keyValid with
    | true =>
      have err : t.err = 0 := by rw [key] at ht; cases ht; exact none_yet
      rw [err, block_op_bit2 hop]
      simp
    | false =>
      have err : t.err = 2 := by rw [key] at ht; cases ht; exact raiseError_err_of_none none_yet
      rw [err, block_op_bit2 hop]
      simp [hop]
  · rw [exec_reserved row] at ht
    have err : t.err = 1 := by cases ht; exact raiseError_err_of_none none_yet
    have not_block : ¬(op = 0b010#3 ∨ op = 0b011#3) := fun block => by
      rw [block_op_bit2 block] at hop
      cases hop
    rw [err, hop]
    simp [not_block]

end Sys2Proof.Machine

/-! ### SELECT bit by bit, and its seven uses (R100, R101, R103, R110 to R117) -/

namespace Sys2Proof.Machine

/-- Bit `i` of the result is the input bit that the entry `i` places before the table's end names (R100). -/
theorem select_getLsbD {win wout : Nat} (t : PermTable) (x : BitVec win) {i : Nat} (hw : i < wout) (ht : i < t.length) :
    (select wout t x).getLsbD i = x.getLsbD (win - t.getD (t.length - 1 - i) 0) := by
  induction t using List.reverseRecOn generalizing i with
  | nil => simp at ht
  | append_singleton t p ih =>
    rw [select_append_one, BitVec.getLsbD_shiftConcat, decide_eq_true hw, Bool.true_and, List.length_append,
      List.length_singleton, Nat.add_sub_cancel]
    cases i with
    | zero => simp
    | succ i =>
      have shorter : i < t.length := by simpa using ht
      have entry : (t ++ [p]).getD (t.length - (i + 1)) 0 = t.getD (t.length - 1 - i) 0 := by
        rw [Nat.sub_add_eq, Nat.sub_right_comm]
        exact List.getD_append _ _ _ _ (by omega)
      rw [if_neg (Nat.succ_ne_zero i), Nat.add_sub_cancel, ih (by omega) shorter, entry]

/-- A table that passes the check of R103 has `wout` entries. -/
theorem length_of_valid {win wout : Nat} {t : PermTable} (h : t.valid win wout = true) : t.length = wout := by
  simp only [PermTable.valid, Bool.and_eq_true, beq_iff_eq] at h
  obtain ⟨length, -⟩ := h
  exact length

/-- The entries of a table that passes the check of R103 are positions `1 .. win`. -/
theorem entry_of_valid {win wout : Nat} {t : PermTable} (h : t.valid win wout = true) {n : Nat} (hn : n < wout) :
    1 ≤ t.getD n 0 ∧ t.getD n 0 ≤ win := by
  have inside : n < t.length := by rwa [length_of_valid h]
  simp only [PermTable.valid, Bool.and_eq_true, List.all_eq_true, decide_eq_true_eq] at h
  obtain ⟨-, entries⟩ := h
  rw [List.getD_eq_getElem _ _ inside]
  exact entries _ (List.getElem_mem inside)

/-- `select_getLsbD` for a table that passes the check of R103. -/
theorem select_getLsbD_of_valid {win wout : Nat} {t : PermTable} (h : t.valid win wout = true) (x : BitVec win) {i : Nat}
    (hi : i < wout) : (select wout t x).getLsbD i = x.getLsbD (win - t.getD (wout - 1 - i) 0) := by
  have len := length_of_valid h
  rw [select_getLsbD t x hi (by omega), len]

/-- Settles O1: bit `wout - 1 - n` is named by the entry `wout - 1 - (wout - 1 - n)`. -/
theorem selectPicksTheTabledBits : Obligations.SelectPicksTheTabledBits := by
  intro win wout t x h n hn
  rw [select_getLsbD_of_valid h x (by omega), Nat.sub_sub_self (by omega)]

/-- Settles O3: bit by bit; an entry of a valid table names a bit within the input, which all ones has set. -/
theorem selectIsLinear : Obligations.SelectIsLinear := by
  intro win wout t x y h
  refine ⟨BitVec.eq_of_getLsbD_eq fun i hi => ?_, BitVec.eq_of_getLsbD_eq fun i hi => ?_,
    BitVec.eq_of_getLsbD_eq fun i hi => ?_⟩
  · simp [select_getLsbD_of_valid h _ hi]
  · simp [select_getLsbD_of_valid h _ hi]
  · have entry := entry_of_valid h (n := wout - 1 - i) (by omega)
    have inside : win - t.getD (wout - 1 - i) 0 < win := by omega
    rw [select_getLsbD_of_valid h _ hi, BitVec.getLsbD_allOnes, BitVec.getLsbD_allOnes, decide_eq_true inside,
      decide_eq_true hi]

/-! The constant tables pass the check of R103. -/

theorem ipTable_valid : ipTable.valid 64 64 = true := by decide
theorem fpTable_valid : fpTable.valid 64 64 = true := by decide
theorem eTable_valid : eTable.valid 32 48 = true := by decide
theorem pTable_valid : pTable.valid 32 32 = true := by decide
theorem pc1cTable_valid : pc1cTable.valid 64 28 = true := by decide
theorem pc1dTable_valid : pc1dTable.valid 64 28 = true := by decide
theorem pc2Table_valid : pc2Table.valid 56 48 = true := by decide

/-- IP and FP are inverse as tables (R117, R119). -/
theorem ipTable_fpTable_inverse : ∀ n : Fin 64,
    ipTable.getD (fpTable.getD n 0 - 1) 0 = n + 1 ∧ fpTable.getD (ipTable.getD n 0 - 1) 0 = n + 1 := by
  decide

/-- Settles O5: finitely many facts about constants. -/
theorem tablesPassTheStaticCheck : Obligations.TablesPassTheStaticCheck :=
  ⟨by decide, ipTable_fpTable_inverse, by decide, by decide⟩

/-- Settles O2: each row shows its own SELECT, which `selectPicksTheTabledBits` describes for its table. -/
theorem engineRowsGiveTheTabledSelection : Obligations.EngineRowsGiveTheTabledSelection := fun _ =>
  ⟨fun x => ⟨ip x, selectPicksTheTabledBits _ _ _ x ipTable_valid, rfl⟩,
    fun x => ⟨fp x, selectPicksTheTabledBits _ _ _ x fpTable_valid, rfl⟩,
    fun r => ⟨expand r, selectPicksTheTabledBits _ _ _ r eTable_valid, rfl⟩,
    fun x => ⟨permute x, selectPicksTheTabledBits _ _ _ x pTable_valid, rfl⟩,
    fun k => ⟨pc1c k, selectPicksTheTabledBits _ _ _ k pc1cTable_valid, rfl⟩,
    fun k => ⟨pc1d k, selectPicksTheTabledBits _ _ _ k pc1dTable_valid, rfl⟩,
    fun cd => ⟨pc2 cd, selectPicksTheTabledBits _ _ _ cd pc2Table_valid, rfl⟩⟩

/-- Two selections by tables of which the second undoes the first give the input back. -/
theorem select_select_of_inverse {w : Nat} {t u : PermTable} (ht : t.valid w w = true) (hu : u.valid w w = true)
    (inverse : ∀ n, n < w → t.getD (u.getD n 0 - 1) 0 = n + 1) (x : BitVec w) : select w u (select w t x) = x := by
  refine BitVec.eq_of_getLsbD_eq fun i hi => ?_
  obtain ⟨low, high⟩ := entry_of_valid hu (n := w - 1 - i) (by omega)
  have position : w - 1 - (w - u.getD (w - 1 - i) 0) = u.getD (w - 1 - i) 0 - 1 := by omega
  rw [select_getLsbD_of_valid hu _ hi, select_getLsbD_of_valid ht x (by omega), position, inverse _ (by omega)]
  exact congrArg x.getLsbD (by omega)

/-- Settles O4: the tables are inverse to each other in both orders. -/
theorem fpUndoesIp : Obligations.FpUndoesIp := fun x =>
  ⟨select_select_of_inverse ipTable_valid fpTable_valid (fun n hn => (ipTable_fpTable_inverse ⟨n, hn⟩).1) x,
    select_select_of_inverse fpTable_valid ipTable_valid (fun n hn => (ipTable_fpTable_inverse ⟨n, hn⟩).2) x⟩

end Sys2Proof.Machine

/-! ### The units looked at by themselves (R101, R118, R162) -/

namespace Sys2Proof.Machine

/-- A row of format TSEL, SADDR or ROT writes `unitOut` and nothing else. -/
theorem Effect.unit_frame {s t : State} {i : Instr} (he : Effect s i t)
    (format : i.format = .tsel ∨ i.format = .saddr ∨ i.format = .rot) : t = { s with unitOut := t.unitOut } := by
  cases he with
  | look _ _ => rfl
  | start | noKey => simp at format
  | reserved code => simp [code.format_eq] at format
  | nop | loadkey | ksStep | rndStep => simp [Instr.format] at format

/-- `unitOut` has no part in what a row does to the rest of the state. -/
theorem Effect.with_unitOut {s t : State} {i : Instr} (he : Effect s i t) (y : Option UnitOut) :
    ∃ y', Effect { s with unitOut := y } i { t with unitOut := y' } := by
  cases he with
  | nop data => exact ⟨y, .nop data⟩
  | loadkey k => exact ⟨y, .loadkey k⟩
  | start dec x key => exact ⟨y, .start dec x key⟩
  | noKey dec x key => exact ⟨y, .noKey dec x key⟩
  | reserved code => exact ⟨y, .reserved code⟩
  | look format shows => exact ⟨_, .look format shows⟩
  | ksStep => exact ⟨y, .ksStep⟩
  | rndStep => exact ⟨y, .rndStep⟩

/-- Settles O59: the frame of the rows that look at a unit, and the rows' independence of `unitOut`. -/
theorem unitRowsChangeNoRegister : Obligations.UnitRowsChangeNoRegister := by
  refine ⟨fun i s t format h => (Effect.of_exec h).unit_frame format, fun i s t y h => ?_⟩
  obtain ⟨y', he⟩ := (Effect.of_exec h).with_unitOut y
  exact ⟨y', he.exec_eq⟩

/-- Settles O36: the next item's word is decoded, and the item is used up. -/
theorem unitStepRunsTheDecodedRow : Obligations.UnitStepRunsTheDecodedRow := by
  intro s u w q hq
  have pend := pending_unit hq
  refine ⟨fun i hi => ?_, fun e he => ?_⟩
  · have hw : work s = .run i := by simp [work, pend, hi]
    have used : s.afterInput = { s with inputs := q } := by
      rw [State.afterInput, pend]
      rfl
    rw [step_of_run hw, used]
  · have hw : work s = .reject e := by simp [work, pend, he]
    simp [step, hw]

end Sys2Proof.Machine

/-! ### The complement law (95_test_vectors.md section 3.6)

Every selection and every rotation commutes with complementing, and F is unchanged when both its operands are
complemented; so a complemented block under a complemented key has every half complemented in every round. -/

namespace Sys2Proof.Machine

/-- SELECT by a valid table commutes with complementing: the complement is the exclusive or with all ones (R101). -/
theorem select_not {win wout : Nat} {t : PermTable} (h : t.valid win wout = true) (x : BitVec win) :
    select wout t (~~~x) = ~~~(select wout t x) := by
  obtain ⟨xor, -, ones⟩ := selectIsLinear win wout t x (BitVec.allOnes win) h
  rw [← BitVec.xor_allOnes, xor, ones, BitVec.xor_allOnes]

@[simp] theorem ip_not (x : Block) : ip (~~~x) = ~~~(ip x) := select_not ipTable_valid x
@[simp] theorem fp_not (x : Block) : fp (~~~x) = ~~~(fp x) := select_not fpTable_valid x
@[simp] theorem expand_not (r : Half) : expand (~~~r) = ~~~(expand r) := select_not eTable_valid r
@[simp] theorem pc1c_not (k : MasterKey) : pc1c (~~~k) = ~~~(pc1c k) := select_not pc1cTable_valid k
@[simp] theorem pc1d_not (k : MasterKey) : pc1d (~~~k) = ~~~(pc1d k) := select_not pc1dTable_valid k
@[simp] theorem pc2_not (cd : BitVec 56) : pc2 (~~~cd) = ~~~(pc2 cd) := select_not pc2Table_valid cd

@[simp] theorem hi_not (v : Block) : hi (~~~v) = ~~~(hi v) := by
  refine BitVec.eq_of_getLsbD_eq fun i lt => ?_
  have inside : 32 + i < 64 := by omega
  simp only [hi_getLsbD, BitVec.getLsbD_not, lt, inside]

@[simp] theorem lo_not (v : Block) : lo (~~~v) = ~~~(lo v) := by
  refine BitVec.eq_of_getLsbD_eq fun i lt => ?_
  have inside : i < 64 := by omega
  simp only [lo_getLsbD, BitVec.getLsbD_not, lt, inside]

@[simp] theorem preOutput_not (l r : Half) : preOutput (~~~l) (~~~r) = ~~~(preOutput l r) := BitVec.not_append.symm

@[simp] theorem joinKeyHalves_not (c d : KeyHalf) : joinKeyHalves (~~~c) (~~~d) = ~~~(joinKeyHalves c d) :=
  BitVec.not_append.symm

/-- A rotation commutes with complementing (R130). -/
theorem rotl28_not (x : KeyHalf) {n : Nat} (hn : n ≤ 28) : rotl28 (~~~x) n = ~~~(rotl28 x n) := by
  refine BitVec.eq_of_getLsbD_eq fun j hj => ?_
  have inside : (if j < n then 28 - n + j else j - n) < 28 := by split <;> omega
  simp only [rotl28_getLsbD _ n j hn hj, BitVec.getLsbD_not, hj, inside]

/-- KSROUND of complemented halves: both halves and the round key are complemented (R133). -/
theorem ksRound_not (i : RoundIndex) (c d : KeyHalf) :
    ksRound i (~~~c) (~~~d) = (~~~(ksRound i c d).1, ~~~(ksRound i c d).2.1, ~~~(ksRound i c d).2.2) := by
  have amount : shiftSchedule i ≤ 28 := by
    obtain h | h := shiftSchedule_one_or_two i <;> omega
  simp [ksRound, rotl28_not _ amount]

/-- A file with every round key complemented. -/
def complementKeys (rk : RoundKeys) : RoundKeys := rk.map (~~~ ·)

/-- The state of generateRoundKeys's loop with everything in it complemented. -/
def complementSchedule (st : KeyHalf × KeyHalf × RoundKeys) : KeyHalf × KeyHalf × RoundKeys :=
  (~~~st.1, ~~~st.2.1, complementKeys st.2.2)

/-- Both halves complemented. -/
def complementHalves (lr : Half × Half) : Half × Half := (~~~lr.1, ~~~lr.2)

theorem ksTurn_complementSchedule (st : KeyHalf × KeyHalf × RoundKeys) (i : RoundIndex) :
    ksTurn (complementSchedule st) i = complementSchedule (ksTurn st i) := by
  simp [ksTurn, complementSchedule, complementKeys, ksRound_not]

/-- The schedule of a complemented key, begun on a complemented file, is the complemented schedule (R134). -/
theorem scheduleAfter_not (k : MasterKey) (rk : RoundKeys) (is : List RoundIndex) :
    scheduleAfter (~~~k) (complementKeys rk) is = complementSchedule (scheduleAfter k rk is) := by
  rw [scheduleAfter, pc1c_not, pc1d_not]
  exact List.foldl_hom complementSchedule (init := (pc1c k, pc1d k, rk)) ksTurn_complementSchedule

/-- RK(~K) is RK(K) complemented, on whatever file the schedule begins (R134). -/
theorem generateRoundKeys_not (k : MasterKey) : generateRoundKeys (~~~k) = complementKeys (generateRoundKeys k) :=
  calc
    generateRoundKeys (~~~k) = (scheduleAfter (~~~k) (complementKeys (Vector.replicate 16 0)) Config.roundIndices).2.2 :=
      (scheduleAfter_roundIndices _ _).symm
    _ = complementKeys (generateRoundKeys k) := congrArg (·.2.2) (scheduleAfter_not k _ _)

/-- F does not see both its operands complemented: E(~r) ^ ~k = E(r) ^ k (R170). -/
theorem feistelF_not (r : Half) (k : RoundKey) : feistelF (~~~r) (~~~k) = feistelF r k := by
  have stage : expand (~~~r) ^^^ ~~~k = expand r ^^^ k := by
    rw [expand_not, ← BitVec.not_xor_left, ← BitVec.not_xor_right, BitVec.not_not]
  rw [feistelF, stage, feistelF]

theorem cryptTurn_complement (rk : RoundKeys) (dec : Bool) (lr : Half × Half) (i : RoundIndex) :
    cryptTurn (complementKeys rk) dec (complementHalves lr) i = complementHalves (cryptTurn rk dec lr i) := by
  simp [cryptTurn, feistelRound, complementHalves, complementKeys, feistelF_not, BitVec.not_xor_left]

/-- The rounds on a complemented block under complemented round keys: both halves are complemented (R181). -/
theorem cryptHalves_not (x : Block) (rk : RoundKeys) (dec : Bool) (is : List RoundIndex) :
    cryptHalves (~~~x) (complementKeys rk) dec is = complementHalves (cryptHalves x rk dec is) := by
  rw [cryptHalves, ip_not, hi_not, lo_not]
  exact List.foldl_hom complementHalves (init := (hi (ip x), lo (ip x))) (cryptTurn_complement rk dec)

/-- Settles O24: the round keys, then the halves, then FP of the halves are complemented. -/
theorem complementingKeyAndBlockComplementsTheResult : Obligations.ComplementingKeyAndBlockComplementsTheResult := by
  intro x k dec
  rw [generateRoundKeys_not, crypt_eq_cryptHalves, cryptHalves_not, complementHalves, preOutput_not, fp_not,
    ← crypt_eq_cryptHalves]

end Sys2Proof.Machine

/-! ### The key schedule: rotations, round keys in closed form, and the run of LOADKEY (R130 to R140)

A rotation by `a` and then by `b` is one by `a + b` modulo 28, so the halves after a list of rounds are the first halves
rotated by the sum of the rounds' amounts; and round `i` alone writes entry `i`, from the halves it leaves. -/

namespace Sys2Proof.Machine

/-- ROTL28(x, n) = x[27-n:0] ‖ x[27:28-n], the first formula of R130. -/
theorem rotl28_eq_append (x : KeyHalf) {n : Nat} (hn : n ≤ 28) :
    rotl28 x n = (x.extractLsb' 0 (28 - n) ++ x.extractLsb' (28 - n) n).cast (Nat.sub_add_cancel hn) := by
  refine BitVec.eq_of_getLsbD_eq fun j hj => ?_
  rw [rotl28_getLsbD x n j hn hj, BitVec.getLsbD_cast, BitVec.getLsbD_append]
  split
  · next low => simp [low]
  · next high =>
    have inside : j - n < 28 - n := by omega
    simp [inside]

/-- Settles O9: R130's first formula at the two amounts of the schedule (R80). -/
theorem rotationIsWithin28Bits : Obligations.RotationIsWithin28Bits := by
  refine fun x s => ⟨?_, ?_, shiftSchedule_one_or_two⟩
  · have formula : rotl28 x 1 = x.extractLsb' 0 27 ++ x.extractLsb' 27 1 := rotl28_eq_append x (by decide)
    rw [← formula]
    rfl
  · have formula : rotl28 x 2 = x.extractLsb' 0 26 ++ x.extractLsb' 26 2 := rotl28_eq_append x (by decide)
    rw [← formula]
    rfl

/-- Settles O10: bit `j` comes from `a + b` places below, cyclically, in one rotation or in two. -/
theorem rotationsCompose : Obligations.RotationsCompose := by
  intro x a b ha hb
  refine BitVec.eq_of_getLsbD_eq fun j hj => ?_
  have inside : (if j < b then 28 - b + j else j - b) < 28 := by split <;> omega
  rw [rotl28_getLsbD _ b j (by omega) hj, rotl28_getLsbD x a _ (by omega) inside,
    rotl28_getLsbD x _ j (by omega) hj]
  refine congrArg x.getLsbD ?_
  split_ifs <;> omega

/-- Settles O11: finitely many facts about the constant schedule. -/
theorem shiftScheduleAndItsMask : Obligations.ShiftScheduleAndItsMask :=
  ⟨by decide, by decide, by decide, by decide⟩

/-- The total rotation of the rounds in `is`, within 28 bits (R131). -/
def netRotation (is : List RoundIndex) : Nat := (is.map shiftSchedule).sum % 28

@[simp] theorem netRotation_nil : netRotation [] = 0 := rfl

theorem netRotation_cons (i : RoundIndex) (is : List RoundIndex) :
    netRotation (i :: is) = (shiftSchedule i + netRotation is) % 28 := by
  simp [netRotation]

theorem netRotation_le (is : List RoundIndex) : netRotation is ≤ 27 :=
  Nat.le_of_lt_succ (Nat.mod_lt _ (by decide))

/-- The schedule sums to 28 (R131). -/
@[simp] theorem netRotation_roundIndices : netRotation Config.roundIndices = 0 := by decide

/-- A round and then the rounds in `is` rotate a half by their total (R130, R131). -/
theorem rotl28_netRotation_cons (x : KeyHalf) (i : RoundIndex) (is : List RoundIndex) :
    rotl28 (rotl28 x (shiftSchedule i)) (netRotation is) = rotl28 x (netRotation (i :: is)) := by
  have amount : shiftSchedule i ≤ 27 := by
    obtain h | h := shiftSchedule_one_or_two i <;> omega
  rw [rotationsCompose x _ _ amount (netRotation_le is), netRotation_cons]

/-- The rounds in `is` rotate each half by their total (R134). -/
theorem foldl_ksTurn_halves (is : List RoundIndex) (st : KeyHalf × KeyHalf × RoundKeys) :
    (is.foldl ksTurn st).1 = rotl28 st.1 (netRotation is) ∧
      (is.foldl ksTurn st).2.1 = rotl28 st.2.1 (netRotation is) := by
  induction is generalizing st with
  | nil => simp
  | cons i is ih =>
    obtain ⟨c, d⟩ := ih (ksTurn st i)
    exact ⟨c.trans (rotl28_netRotation_cons st.1 i is), d.trans (rotl28_netRotation_cons st.2.1 i is)⟩

/-- Rounds other than `i` leave entry `i` of the file as it is (R134). -/
theorem foldl_ksTurn_entry_of_not_mem {i : RoundIndex} {is : List RoundIndex} (h : i ∉ is)
    (st : KeyHalf × KeyHalf × RoundKeys) : (is.foldl ksTurn st).2.2[i.toNat] = st.2.2[i.toNat] := by
  induction is generalizing st with
  | nil => rfl
  | cons j is ih =>
    obtain ⟨other, rest⟩ := List.ne_and_not_mem_of_not_mem_cons h
    rw [List.foldl_cons, ih rest]
    exact Vector.getElem_set_ne j.isLt i.isLt fun e => other (BitVec.eq_of_toNat_eq e.symm)

/-- Round `i` writes entry `i` from the halves it leaves (R133). -/
theorem ksTurn_entry (st : KeyHalf × KeyHalf × RoundKeys) (i : RoundIndex) :
    (ksTurn st i).2.2[i.toNat] = pc2 ((ksTurn st i).1 ++ (ksTurn st i).2.1) :=
  Vector.getElem_set_self i.isLt

/-- No round after round `i` is round `i`. -/
theorem not_mem_later_rounds (i : RoundIndex) : i ∉ Config.roundIndices.drop (i.toNat + 1) := by
  revert i
  decide

/-- Entry `i` is made from the halves that round `i` leaves, and no later round writes over it (R134). -/
theorem foldl_roundIndices_entry (st : KeyHalf × KeyHalf × RoundKeys) (i : RoundIndex) :
    (Config.roundIndices.foldl ksTurn st).2.2[i.toNat] =
      pc2 (((Config.roundIndices.take (i.toNat + 1)).foldl ksTurn st).1 ++
        ((Config.roundIndices.take (i.toNat + 1)).foldl ksTurn st).2.1) := by
  have later : Config.roundIndices.foldl ksTurn st = (Config.roundIndices.drop (i.toNat + 1)).foldl ksTurn
      ((Config.roundIndices.take (i.toNat + 1)).foldl ksTurn st) := by
    rw [← List.foldl_append, List.take_append_drop]
  have last : (Config.roundIndices.take (i.toNat + 1)).foldl ksTurn st =
      ksTurn ((Config.roundIndices.take i.toNat).foldl ksTurn st) i := by
    rw [roundIndices_take_succ _ i.isLt, List.foldl_append, BitVec.ofNat_toNat, BitVec.setWidth_eq]
    rfl
  rw [later, foldl_ksTurn_entry_of_not_mem (not_mem_later_rounds i), last, ksTurn_entry]

/-- Settles O12: the halves after round `i` are the loaded ones rotated by the rounds' total. -/
theorem roundKeysInClosedForm : Obligations.RoundKeysInClosedForm := by
  intro k i
  obtain ⟨c, d⟩ := foldl_ksTurn_halves (Config.roundIndices.take (i.toNat + 1)) (pc1c k, pc1d k, Vector.replicate 16 0)
  rw [generateRoundKeys, foldl_roundIndices_entry, c, d]
  rfl

/-- All sixteen rounds return both halves (R135): their amounts sum to 28. -/
theorem foldl_roundIndices_halves (st : KeyHalf × KeyHalf × RoundKeys) :
    (Config.roundIndices.foldl ksTurn st).1 = st.1 ∧ (Config.roundIndices.foldl ksTurn st).2.1 = st.2.1 := by
  simpa using foldl_ksTurn_halves Config.roundIndices st

/-- Settles O13: the halves return, and the last round key is made from them. -/
theorem halvesReturnAfterSixteenRounds : Obligations.HalvesReturnAfterSixteenRounds := by
  refine ⟨fun c d rk => foldl_roundIndices_halves (c, d, rk), fun k => ?_⟩
  have index : (15 : RoundIndex).toNat = 15 := rfl
  have total : ((Config.roundIndices.take (15 + 1)).map shiftSchedule).sum % 28 = 0 := by decide
  have closed := roundKeysInClosedForm k 15
  simp only [index] at closed
  rw [closed, total, rotl28_zero, rotl28_zero]

/-- A mask of dropped bits is zero wherever 8 does not divide the index (R136). -/
theorem getLsbD_of_dropped {m : MasterKey} (hm : m &&& 0xFEFEFEFEFEFEFEFE#64 = 0) {j : Nat} (hj : j < 64)
    (kept : j % 8 ≠ 0) : m.getLsbD j = false := by
  have mask : ∀ j : Fin 64, j.val % 8 ≠ 0 → (0xFEFEFEFEFEFEFEFE#64).getLsbD j.val = true := by decide
  have bit := congrArg (·.getLsbD j) hm
  simpa [mask ⟨j, hj⟩ kept] using bit

/-- A valid table none of whose entries 8 divides selects nothing of a mask of dropped bits (R108, R136). -/
theorem select_xor_dropped {wout : Nat} {t : PermTable} (valid : t.valid 64 wout = true) (kept : ∀ p ∈ t, p % 8 ≠ 0)
    {m : MasterKey} (hm : m &&& 0xFEFEFEFEFEFEFEFE#64 = 0) (k : MasterKey) :
    select wout t (k ^^^ m) = select wout t k := by
  have nothing : select wout t m = 0 := by
    refine BitVec.eq_of_getLsbD_eq fun i hi => ?_
    obtain ⟨low, high⟩ := entry_of_valid valid (n := wout - 1 - i) (by omega)
    have entry : t.getD (wout - 1 - i) 0 % 8 ≠ 0 := by
      have inside : wout - 1 - i < t.length := by
        rw [length_of_valid valid]
        omega
      rw [List.getD_eq_getElem _ _ inside]
      exact kept _ (List.getElem_mem inside)
    rw [select_getLsbD_of_valid valid m hi, getLsbD_of_dropped hm (by omega) (by omega)]
    simp
  obtain ⟨linear, -⟩ := selectIsLinear 64 wout t k m valid
  rw [linear, nothing]
  exact BitVec.xor_zero

theorem pc1c_xor_dropped {m : MasterKey} (hm : m &&& 0xFEFEFEFEFEFEFEFE#64 = 0) (k : MasterKey) :
    pc1c (k ^^^ m) = pc1c k :=
  select_xor_dropped pc1cTable_valid (by decide) hm k

theorem pc1d_xor_dropped {m : MasterKey} (hm : m &&& 0xFEFEFEFEFEFEFEFE#64 = 0) (k : MasterKey) :
    pc1d (k ^^^ m) = pc1d k :=
  select_xor_dropped pc1dTable_valid (by decide) hm k

/-- Settles O14: the schedule and LOADKEY read a key through PC-1 only. -/
theorem droppedKeyBitsHaveNoEffect : Obligations.DroppedKeyBitsHaveNoEffect := by
  intro k m hm
  have c := pc1c_xor_dropped hm k
  have d := pc1d_xor_dropped hm k
  refine ⟨?_, fun s => ?_⟩
  · rw [generateRoundKeys, c, d, generateRoundKeys]
  · have loaded : s.loadKey (k ^^^ m) = s.loadKey k := by rw [State.loadKey, c, d, State.loadKey]
    exact congrArg Host.Outcome.next loaded

/-- Settles O15: `State.ksNext`, field by field. -/
theorem ksStepRunsOneRound : Obligations.KsStepRunsOneRound := fun _ => Effect.ksStep.exec_eq

/-- The schedule of `k` ends with the loaded halves and all round keys, on whatever file it begins (R134, R135). -/
theorem scheduleAfter_roundIndices_eq (k : MasterKey) (rk : RoundKeys) :
    scheduleAfter k rk Config.roundIndices = (pc1c k, pc1d k, generateRoundKeys k) := by
  obtain ⟨c, d⟩ := foldl_roundIndices_halves (pc1c k, pc1d k, rk)
  exact Prod.ext c (Prod.ext d (scheduleAfter_roundIndices k rk))

/-- Settles O16: `steps_ks` and `steps_ks_sixteen` from the state LOADKEY leaves, in phase KS with KEY_VALID = 0. -/
theorem loadkeyRunsToCompletion : Obligations.LoadkeyRunsToCompletion := by
  intro s k hh
  have held : HeldOrNothing (s.loadKey k).inputs := hh
  have run : steps 16 (s.loadKey k) = .next ((s.loadKey k).keyReady (scheduleAfter k s.rk Config.roundIndices)) :=
    steps_ks_sixteen held rfl rfl
  rw [scheduleAfter_roundIndices_eq] at run
  exact ⟨s.loadKey k, rfl, rfl, fun n hn => ⟨_, steps_ks held rfl rfl hn, rfl, rfl⟩, run⟩

end Sys2Proof.Machine

/-! ### SUBSTITUTE: each lane's nibble is a function of that lane's chunk (R151) -/

namespace Sys2Proof.Machine

/-- Nibble `i` of SUBSTITUTE from the top is lane `i` (R151): the lanes below it are dropped, then those above. -/
theorem substitute_nibble (x : BitVec 48) (i : BitVec 3) :
    (substitute x).extractLsb' (28 - 4 * i.toNat) 4 = sBoxLane x i := by
  -- The width is written as the sum that the `++` of `substitute` builds, since the lemmas about `++` match on a sum.
  change BitVec.extractLsb' (n := 4 + 4 + 4 + 4 + 4 + 4 + 4 + 4) _ 4 (substitute x) = sBoxLane x i
  obtain rfl | rfl | rfl | rfl | rfl | rfl | rfl | rfl := code3_cases i <;>
    simp (disch := decide) only [substitute, BitVec.extractLsb'_append_eq_of_le,
      BitVec.extractLsb'_append_eq_of_add_le] <;>
    exact BitVec.extractLsb'_eq_self

/-- Settles O8: lane `i` is box `i` on chunk `i`. -/
theorem substituteWorksLaneByLane : Obligations.SubstituteWorksLaneByLane := fun x i =>
  calc (substitute x).extractLsb' (28 - 4 * i.toNat) 4
    _ = sBoxLane x i := substitute_nibble x i
    _ = sBox i (x.extractLsb' (42 - 6 * i.toNat) 6) := by rw [sBoxLane, chunkOf]

end Sys2Proof.Machine

/-! ### The Feistel round: what F depends on, and the round as its own inverse (R170, R173) -/

namespace Sys2Proof.Machine

/-- F reads its operands through the exclusive or stage only (R170, R171). -/
theorem feistelF_congr {r r' : Half} {k k' : RoundKey} (stage : expand r ^^^ k = expand r' ^^^ k') :
    feistelF r k = feistelF r' k' := by
  rw [feistelF, stage, feistelF]

/-- Settles O18: E(r') cancels in the exclusive or stage, which leaves E(r) ^ k. -/
theorem fIsItsFourStages : Obligations.FIsItsFourStages := by
  refine ⟨fun _ _ => rfl, fun r r' k => feistelF_congr ?_⟩
  calc expand r ^^^ k
    _ = k ^^^ expand r := BitVec.xor_comm _ _
    _ = k ^^^ expand r ^^^ expand r' ^^^ expand r' := by rw [BitVec.xor_assoc, BitVec.xor_self, BitVec.xor_zero]
    _ = expand r' ^^^ (k ^^^ expand r ^^^ expand r') := BitVec.xor_comm _ _

/-- A round on the exchanged halves of a round, under the same key, adds F(R, k) to L a second time (R173). -/
theorem feistelRound_exchanged (l r : Half) (k : RoundKey) :
    feistelRound (feistelRound l r k).2 (feistelRound l r k).1 k = (r, l) :=
  calc feistelRound (l ^^^ feistelF r k) r k
    _ = (r, l ^^^ feistelF r k ^^^ feistelF r k) := rfl
    _ = (r, l) := by rw [BitVec.xor_assoc, BitVec.xor_self, BitVec.xor_zero]

/-- Settles O19: the round by its definition, and `feistelRound_exchanged`. -/
theorem roundUndoesItself : Obligations.RoundUndoesItself := fun l r k => ⟨rfl, feistelRound_exchanged l r k⟩

end Sys2Proof.Machine

/-! ### The block cipher: CRYPT round by round and its inverse (R181 to R188)

A turn of CRYPT's loop is undone by the turn of the other direction at the mirrored round on exchanged halves, since both
read one round key. The exchange at the end of CRYPT hands the other direction its halves exchanged. -/

namespace Sys2Proof.Machine

/-- Settles O20: both directions by value, then KSEL as 4-bit logic. -/
theorem kselReadsForwardOrBackward : Obligations.KselReadsForwardOrBackward := by
  have backward : ∀ i : RoundIndex, (ksel true i).toNat = 15 - i.toNat := by decide
  have logic : ∀ (i : RoundIndex) (dec : Bool), ksel dec i =
      i ^^^ (BitVec.ofBool dec ++ BitVec.ofBool dec ++ BitVec.ofBool dec ++ BitVec.ofBool dec) := by decide
  exact fun i => ⟨rfl, backward i, logic i⟩

/-- The other direction reads at the mirrored round the key that this one reads (R182). -/
theorem ksel_mirrored : ∀ (dec : Bool) (i : RoundIndex), ksel (!dec) (15 - i) = ksel dec i := by decide

/-- The round key of a turn, by the direction (R182). -/
theorem roundKey_ksel (rk : RoundKeys) (dec : Bool) (i : RoundIndex) :
    rk[(ksel dec i).toNat] = if dec then rk[(15 - i).toNat] else rk[i.toNat] := by
  cases dec <;> rfl

/-- The round key of round `n`, counted as a natural number (R182). -/
theorem roundKey_ksel_ofNat (rk : RoundKeys) (dec : Bool) (n : Nat) (hn : n < 16) :
    rk[(ksel dec (BitVec.ofNat 4 n)).toNat] = if dec then rk[15 - n] else rk[n] := by
  obtain ⟨forward, backward, -⟩ := kselReadsForwardOrBackward (BitVec.ofNat 4 n)
  have value : (BitVec.ofNat 4 n).toNat = n := Nat.mod_eq_of_lt hn
  cases dec
  · simp only [forward, value, Bool.false_eq_true, if_false]
  · simp only [backward, value, if_true]

/-- The halves one round on (R181, R185). -/
theorem cryptHalves_take_succ (x : Block) (rk : RoundKeys) (dec : Bool) {n : Nat} (hn : n < 16) :
    cryptHalves x rk dec (Config.roundIndices.take (n + 1)) =
      feistelRound (cryptHalves x rk dec (Config.roundIndices.take n)).1
        (cryptHalves x rk dec (Config.roundIndices.take n)).2 (if dec then rk[15 - n] else rk[n]) := by
  rw [roundIndices_take_succ n hn, cryptHalves_snoc, cryptTurn, roundKey_ksel_ofNat rk dec n hn]

/-- Settles O21: L_n and R_n are the halves after the first `n` rounds. -/
theorem cryptIsSixteenRoundsAndASwap : Obligations.CryptIsSixteenRoundsAndASwap := by
  intro x rk dec
  refine ⟨fun n => (cryptHalves x rk dec (Config.roundIndices.take n)).1,
    fun n => (cryptHalves x rk dec (Config.roundIndices.take n)).2, rfl, rfl, fun n hn => ?_, rfl⟩
  have next := cryptHalves_take_succ x rk dec hn
  exact ⟨congrArg Prod.fst next, congrArg Prod.snd next⟩

/-- A turn on the exchanged halves of a turn, in the other direction at the mirrored round, undoes it (R173, R188). -/
theorem cryptTurn_mirrored (rk : RoundKeys) (dec : Bool) (lr : Half × Half) (i : RoundIndex) :
    cryptTurn rk (!dec) (cryptTurn rk dec lr i).swap (15 - i) = lr.swap := by
  simp only [cryptTurn, ksel_mirrored]
  exact feistelRound_exchanged lr.1 lr.2 _

/-- Any rounds, and then the mirrored rounds in the other order and direction on the exchanged halves (R188). -/
theorem foldl_cryptTurn_mirrored (rk : RoundKeys) (dec : Bool) (is : List RoundIndex) (lr : Half × Half) :
    (is.reverse.map (15 - ·)).foldl (cryptTurn rk (!dec)) (is.foldl (cryptTurn rk dec) lr).swap = lr.swap := by
  induction is generalizing lr with
  | nil => rfl
  | cons i is ih =>
    rw [List.reverse_cons, List.map_append, List.foldl_append, List.foldl_cons, ih]
    exact cryptTurn_mirrored rk dec lr i

/-- The sixteen rounds backward from 15 are the sixteen rounds. -/
theorem roundIndices_mirrored : Config.roundIndices.reverse.map (15 - ·) = Config.roundIndices := by decide

/-- CRYPT enters its rounds, on a block that CRYPT has made, with the last halves exchanged (R185, R188). -/
theorem cryptHalves_fp_preOutput (lr : Half × Half) (rk : RoundKeys) (dec : Bool) (is : List RoundIndex) :
    cryptHalves (fp (preOutput lr.1 lr.2)) rk dec is = is.foldl (cryptTurn rk dec) lr.swap := by
  obtain ⟨-, undo⟩ := fpUndoesIp (preOutput lr.1 lr.2)
  rw [cryptHalves, undo, preOutput, hi_joinHalves, lo_joinHalves, Prod.swap]

/-- CRYPT in one direction is undone by CRYPT in the other, for any sixteen round keys (R188). -/
theorem crypt_crypt_not (x : Block) (rk : RoundKeys) (dec : Bool) : crypt (crypt x rk dec) rk (!dec) = x := by
  have halves : cryptHalves (crypt x rk dec) rk (!dec) Config.roundIndices = (lo (ip x), hi (ip x)) :=
    calc cryptHalves (crypt x rk dec) rk (!dec) Config.roundIndices
      _ = Config.roundIndices.foldl (cryptTurn rk (!dec)) (cryptHalves x rk dec Config.roundIndices).swap := by
        rw [crypt_eq_cryptHalves, cryptHalves_fp_preOutput]
      _ = (Config.roundIndices.reverse.map (15 - ·)).foldl (cryptTurn rk (!dec))
            (cryptHalves x rk dec Config.roundIndices).swap := by rw [roundIndices_mirrored]
      _ = (lo (ip x), hi (ip x)) := foldl_cryptTurn_mirrored rk dec Config.roundIndices (hi (ip x), lo (ip x))
  obtain ⟨undo, -⟩ := fpUndoesIp x
  rw [crypt_eq_cryptHalves, halves, preOutput, joinHalves_hi_lo, undo]

/-- Settles O22: the other direction is a two-sided inverse. -/
theorem eachDirectionUndoesTheOther : Obligations.EachDirectionUndoesTheOther := by
  refine fun x rk => ⟨crypt_crypt_not x rk false, crypt_crypt_not x rk true, fun dec => ?_⟩
  refine Function.bijective_iff_has_inverse.mpr
    ⟨fun y => crypt y rk (!dec), fun y => crypt_crypt_not y rk dec, fun y => ?_⟩
  simpa only [Bool.not_not] using crypt_crypt_not y rk (!dec)

/-- Settles O23: with equal keys a turn is the same in both directions. -/
theorem equalRoundKeysMakeDirectionsAgree : Obligations.EqualRoundKeysMakeDirectionsAgree := by
  intro x rk equal
  have turn : cryptTurn rk false = cryptTurn rk true := by
    funext lr i
    exact congrArg (feistelRound lr.1 lr.2) (equal (ksel false i).toFin (ksel true i).toFin)
  rw [crypt, turn, crypt]

/-- Settles O25: START in each direction. -/
theorem blockCommandStartsTheRounds : Obligations.BlockCommandStartsTheRounds := fun _ x key =>
  ⟨(Effect.start false x key).exec_eq, (Effect.start true x key).exec_eq⟩

/-- Settles O26: the RND step, its round key by the direction. -/
theorem rndStepRunsOneRound : Obligations.RndStepRunsOneRound := by
  intro s
  rw [← roundKey_ksel]
  exact Effect.rndStep.exec_eq

/-- Settles O27: START, then the first RND steps and all sixteen. -/
theorem blockCommandRunsToCompletion : Obligations.BlockCommandRunsToCompletion := by
  intro s x dec hh key
  have held : HeldOrNothing (s.start x dec).inputs := hh
  exact ⟨s.start x dec, (Effect.start dec x key).exec_eq, fun n hn => ⟨_, steps_rnd held rfl rfl hn, rfl, rfl⟩,
    steps_start hh x dec⟩

end Sys2Proof.Machine

/-! ### The movements of PHASE, and NOP (R192, R193) -/

namespace Sys2Proof.Machine

/-- At an edge whose levels the host gives, the work is that of those levels (R25). -/
theorem work_of_edge_item {s : State} {p : Pins} {q : List Input} (hq : s.inputs = .edge p :: q) :
    work s = workAtEdge p s.phase := by
  have hpend := pending_edge hq
  rw [work_of_edge (by simp [hpend]), hpend]
  rfl

/-- An edge whose levels the host gives uses its item up. -/
theorem afterInput_of_edge_item {s : State} {p : Pins} {q : List Input} (hq : s.inputs = .edge p :: q) :
    s.afterInput = s.setInputs q := by
  rw [State.afterInput, pending_edge hq]
  rfl

/-- Settles O38: the accepted NOP answers the state it finds, as an idle edge does. -/
theorem nopChangesNoRegister : Obligations.NopChangesNoRegister := by
  refine ⟨fun data s => (Effect.nop data).exec_eq, fun s data data' op q idle => ⟨?_, ?_⟩⟩
  · have accepted : work { s with inputs := .edge ⟨false, true, 0b000#3, data⟩ :: q } = .run (.nop data) := by
      rw [work_of_edge_item rfl, idle]
      rfl
    rw [step_of_run accepted, afterInput_of_edge_item rfl]
    exact (Effect.nop data).exec_eq
  · have stays : work { s with inputs := .edge ⟨false, false, op, data'⟩ :: q } = .stay := by
      rw [work_of_edge_item rfl, idle]
      rfl
    rw [step_of_stay stays, afterInput_of_edge_item rfl]
    rfl

/-- From IDLE a row moves PHASE only as LOADKEY, or as a block command with KEY_VALID = 1 (R193). -/
theorem Effect.phase_from_idle {s t : State} {i : Instr} (he : Effect s i t) (idle : s.phase = .idle) :
    t.phase = .idle ∨ (t.phase = .ks ∧ t.rcnt = 0 ∧ t.keyValid = false ∧ ∃ k, i = .loadkey k) ∨
      (t.phase = .rnd ∧ t.rcnt = 0 ∧ t.done = false ∧ s.keyValid = true ∧ ∃ dec x, i = blockCommand dec x) := by
  cases he with
  | nop | noKey | reserved | look => exact .inl idle
  | loadkey k => exact .inr (.inl ⟨rfl, rfl, rfl, k, rfl⟩)
  | start dec x key => exact .inr (.inr ⟨rfl, rfl, rfl, key, dec, x, rfl⟩)
  | ksStep | rndStep => exact .inl (by simp [idle])

/-- The KS step stays in KS up to the sixteenth, which ends in IDLE with KEY_VALID = 1 (R138, R193). -/
theorem ksNext_phase_cases {s : State} (hp : s.phase = .ks) :
    (s.rcnt ≠ 15 → s.ksNext.phase = .ks) ∧
      (s.rcnt = 15 → s.ksNext.phase = .idle ∧ s.ksNext.rcnt = 0 ∧ s.ksNext.keyValid = true) := by
  refine ⟨fun more => (if_neg more).trans hp, fun last => ⟨if_pos last, ?_, if_pos last⟩⟩
  rw [State.ksNext_rcnt, last]
  rfl

/-- The RND step stays in RND up to the sixteenth, which ends in IDLE with DONE = 1 (R186, R193). -/
theorem rndNext_phase_cases {s : State} (hp : s.phase = .rnd) :
    (s.rcnt ≠ 15 → s.rndNext.phase = .rnd) ∧
      (s.rcnt = 15 → s.rndNext.phase = .idle ∧ s.rndNext.rcnt = 0 ∧ s.rndNext.done = true) := by
  refine ⟨fun more => (if_neg more).trans hp, fun last => ⟨if_pos last, ?_, if_pos last⟩⟩
  rw [State.rndNext_rcnt, last]
  rfl

/-- A look at a unit leaves the sequencer where it is (R193). -/
theorem Effect.look_keeps_position {s t : State} {i : Instr} (he : Effect s i t)
    (unit : i.format = .tsel ∨ i.format = .saddr ∨ i.format = .rot) : t.phase = s.phase ∧ t.rcnt = s.rcnt := by
  rw [he.unit_frame unit]
  exact ⟨rfl, rfl⟩

/-- Settles O55: an idle edge moves nothing, and a row moves PHASE by its effect, in the phase it runs in. -/
theorem phaseMovesAsListed : Obligations.PhaseMovesAsListed := by
  intro s t h
  obtain ⟨hw, rfl⟩ | ⟨hw, rfl⟩ | ⟨i, hw, he⟩ := step_effect h
  · exact ⟨fun _ => rfl, fun away => absurd hw away⟩
  · exact ⟨fun reset => (by cases reset.symm.trans hw), fun _ => ⟨.inl, fun _ runs => (by cases hw.symm.trans runs),
      fun _ runs => (by cases hw.symm.trans runs), fun _ _ _ => ⟨rfl, rfl⟩⟩⟩
  · refine ⟨fun reset => (by cases reset.symm.trans hw), fun _ => ⟨fun idle => ?_, fun hp runs => ?_, fun hp runs => ?_,
      fun notKs notRnd busy => ?_⟩⟩
    · obtain stays | ⟨hp, hr, hk, k, rfl⟩ | ⟨hp, hr, hd, key, dec, x, rfl⟩ := he.phase_from_idle idle
      · exact .inl stays
      · exact .inr (.inl ⟨hp, hr, hk, k, hw⟩)
      · exact .inr (.inr ⟨hp, hr, hd, key, run_encrypt_or_decrypt hw⟩)
    · cases h.symm.trans ((step_of_run runs).trans Effect.ksStep.exec_eq)
      exact ksNext_phase_cases (s := s.afterInput) hp
    · cases h.symm.trans ((step_of_run runs).trans Effect.rndStep.exec_eq)
      exact rndNext_phase_cases (s := s.afterInput) hp
    · obtain unit | ⟨idle, -⟩ | ⟨-, rfl⟩ | ⟨-, rfl⟩ := work_run hw
      · exact he.look_keeps_position unit
      · exact absurd idle busy
      · exact absurd hw notKs
      · exact absurd hw notRnd

end Sys2Proof.Machine

/-! ### Errors (60_exceptions.md) -/

namespace Sys2Proof.Machine

/-- ERR has no part in what a row does to the rest of the state: only a row that calls the error entry looks at ERR, and
that row writes nothing else; no row overwrites a recorded error (R206, R208). -/
theorem Effect.with_err {s t : State} {i : Instr} (he : Effect s i t) (e : BitVec 2) :
    ∃ e', Effect { s with err := e } i { t with err := e' } ∧ (e ≠ 0 → e' = e) := by
  cases he with
  | nop data => exact ⟨e, .nop data, fun _ => rfl⟩
  | loadkey k => exact ⟨e, .loadkey k, fun _ => rfl⟩
  | start dec x key => exact ⟨e, .start dec x key, fun _ => rfl⟩
  | noKey dec x key => exact ⟨_, .noKey dec x key, fun recorded => if_neg recorded⟩
  | reserved code => exact ⟨_, .reserved code, fun recorded => if_neg recorded⟩
  | look format shows => exact ⟨e, .look format shows, fun _ => rfl⟩
  | ksStep => exact ⟨e, .ksStep, fun _ => rfl⟩
  | rndStep => exact ⟨e, .rndStep, fun _ => rfl⟩

/-- Settles O47: the effect of the row, carried over to the other ERR. -/
theorem errorsDoNotDisturbLaterWork : Obligations.ErrorsDoNotDisturbLaterWork := by
  intro i s t e h
  obtain ⟨e', he, kept⟩ := (Effect.of_exec h).with_err e
  exact ⟨e', he.exec_eq, kept⟩

/-- Settles O39: each reserved code is the error entry with InvalidMode. -/
theorem reservedCodesRaiseInvalidMode : Obligations.ReservedCodesRaiseInvalidMode := fun data s =>
  ⟨exec_reserved ⟨data, .inl rfl⟩ s, exec_reserved ⟨data, .inr (.inl rfl)⟩ s,
    exec_reserved ⟨data, .inr (.inr (.inl rfl))⟩ s, exec_reserved ⟨data, .inr (.inr (.inr rfl))⟩ s⟩

/-- Settles O40: with KEY_VALID = 0 a block command of either direction is the error entry with KeyNotLoaded. -/
theorem keyNotLoadedChangesOnlyErr : Obligations.KeyNotLoadedChangesOnlyErr := fun x _ noKey =>
  ⟨(Effect.noKey false x noKey).exec_eq, (Effect.noKey true x noKey).exec_eq⟩

end Sys2Proof.Machine

/-! ### Reset (70_reset_and_hazards.md R230 to R232) -/

namespace Sys2Proof.Machine

/-- Settles O49: the fields of the reset state and the two outputs of PHASE. -/
theorem resetStateIsIdle : Obligations.ResetStateIsIdle := ⟨rfl, rfl, rfl, rfl, rfl, rfl, rfl⟩

/-- A row that is no command moves PHASE at the sixteenth step only (R26). -/
theorem Effect.phase_before_last {s t : State} {i : Instr} (he : Effect s i t) (notCmd : i.format ≠ .cmd)
    (more : s.rcnt ≠ 15) : t.phase = s.phase := by
  cases he with
  | nop | loadkey => exact absurd rfl notCmd
  | start dec x | noKey dec x => exact absurd (blockCommand_format dec x) notCmd
  | reserved code => exact absurd code.format_eq notCmd
  | look => rfl
  | ksStep | rndStep => exact if_neg more

/-- KEY_VALID is cleared by LOADKEY only, which starts the key schedule (R29, R140). -/
theorem Effect.keyValid_cleared {s t : State} {i : Instr} (he : Effect s i t) (h1 : s.keyValid = true)
    (h0 : t.keyValid = false) : t.phase = .ks ∧ t.rcnt = 0 := by
  cases he with
  | loadkey => exact ⟨rfl, rfl⟩
  | ksStep => simp [h1] at h0
  | _ => cases h1.symm.trans h0

/-- Settles O48: the reset edge writes the five registers, and no row does what only reset may do. -/
theorem resetWritesTheControlRegisters : Obligations.ResetWritesTheControlRegisters := by
  refine ⟨fun s atReset => step_of_reset atReset, fun s p q hq rst => ⟨?_, ?_⟩, fun s t h away => ?_⟩
  · exact (work_of_edge_item hq).trans (if_pos rst)
  · rw [afterInput_of_edge_item hq, State.setInputs_inputs]
  · obtain ⟨kept, -⟩ := firstErrorIsKept s t h away
    refine ⟨fun recorded => by rwa [kept recorded], ?_⟩
    obtain ⟨hw, -⟩ | ⟨-, rfl⟩ | ⟨i, hw, he⟩ := step_effect h
    · exact absurd hw away
    · exact ⟨fun _ _ => rfl, fun h1 h0 => (by cases h1.symm.trans h0)⟩
    · refine ⟨fun busy => he.phase_before_last fun cmd => ?_, he.keyValid_cleared⟩
      simp [phase_of_run_cmd hw cmd] at busy

/-- Settles O50: the state after the reset edge has KEY_VALID = 0 and ERR = 0, so either block command is the error
entry with KeyNotLoaded. -/
theorem resetAbandonsTheOperation : Obligations.ResetAbandonsTheOperation := by
  intro s x atReset _
  obtain ⟨encrypt, decrypt⟩ := keyNotLoadedChangesOnlyErr x s.afterInput.resetEdge rfl
  exact ⟨_, step_of_reset atReset, rfl, rfl, rfl, rfl, rfl, rfl, rfl, rfl, encrypt, decrypt⟩

end Sys2Proof.Machine

/-! ### The control registers never depend on a key or a block (R200, R247)

Two cores with the same control registers, and hosts alike but for data, do the same work but for the data of a command
accepted; and what a row does to the control registers depends neither on that data nor on the data registers. -/

namespace Sys2Proof.Machine

/-- The same work, but for the data of the command accepted. -/
def SameWork (w w' : Work) : Prop :=
  w' = w ∨ ∃ op a b, w = .run (decodeOp op a) ∧ w' = .run (decodeOp op b)

/-- Only a command differs in its data. -/
theorem SameWork.eq_of_no_row {w w' : Work} (h : SameWork w w') (noRow : ∀ i, w ≠ .run i) : w' = w := by
  obtain same | ⟨op, a, b, row, -⟩ := h
  · exact same
  · exact absurd row (noRow _)

theorem SameControl.refl (s : State) : SameControl s s := ⟨rfl, rfl, rfl, rfl, rfl⟩

theorem SameControl.trans {s t u : State} (h : SameControl s t) (h' : SameControl t u) : SameControl s u :=
  ⟨h.phase.trans h'.phase, h.rcnt.trans h'.rcnt, h.keyValid.trans h'.keyValid, h.done.trans h'.done, h.err.trans h'.err⟩

theorem SameControl.busy {s s' : State} (h : SameControl s s') : s.busy = s'.busy := by
  rw [State.busy, State.busy, h.phase]

theorem SameControl.afterInput {s s' : State} (h : SameControl s s') : SameControl s.afterInput s'.afterInput :=
  ⟨h.phase, h.rcnt, h.keyValid, h.done, h.err⟩

theorem SameControl.raiseError {s s' : State} (h : SameControl s s') (code : BitVec 2) :
    SameControl (s.raiseError code) (s'.raiseError code) :=
  ⟨h.phase, h.rcnt, h.keyValid, h.done, by simp [h.err]⟩

theorem SameControl.ksNext {s s' : State} (h : SameControl s s') : SameControl s.ksNext s'.ksNext := by
  constructor <;> simp [h.phase, h.rcnt, h.keyValid, h.done, h.err]

theorem SameControl.rndNext {s s' : State} (h : SameControl s s') : SameControl s.rndNext s'.rndNext := by
  constructor <;> simp [h.phase, h.rcnt, h.keyValid, h.done, h.err]

/-- What a row does to the control registers depends on them alone. -/
theorem Effect.sameControl {s s' t : State} {i : Instr} (he : Effect s i t) (h : SameControl s s') :
    ∃ t', Effect s' i t' ∧ SameControl t t' := by
  cases he with
  | nop data => exact ⟨_, .nop data, h⟩
  | loadkey k => exact ⟨_, .loadkey k, rfl, rfl, rfl, h.done, h.err⟩
  | start dec x key => exact ⟨_, .start dec x (h.keyValid.symm.trans key), rfl, rfl, h.keyValid, rfl, h.err⟩
  | noKey dec x key => exact ⟨_, .noKey dec x (h.keyValid.symm.trans key), h.raiseError _⟩
  | reserved code => exact ⟨_, .reserved code, h.raiseError _⟩
  | look format shows => exact ⟨_, .look format shows, h.phase, h.rcnt, h.keyValid, h.done, h.err⟩
  | ksStep => exact ⟨_, .ksStep, h.ksNext⟩
  | rndStep => exact ⟨_, .rndStep, h.rndNext⟩

/-- The class of a command depends on `op` alone: one class serves all data (R76). -/
theorem decodeOp_class (op : BitVec 3) :
    (∀ data, decodeOp op data = .nop data) ∨ (∀ data, decodeOp op data = .loadkey data) ∨
      (∃ dec, ∀ data, decodeOp op data = blockCommand dec data) ∨ ∀ data, IsReserved (decodeOp op data) := by
  obtain rfl | rfl | rfl | rfl | rfl | rfl | rfl | rfl := code3_cases op
  · exact .inl fun _ => rfl
  · exact .inr (.inl fun _ => rfl)
  · exact .inr (.inr (.inl ⟨false, fun _ => rfl⟩))
  · exact .inr (.inr (.inl ⟨true, fun _ => rfl⟩))
  · exact .inr (.inr (.inr fun data => ⟨data, .inl rfl⟩))
  · exact .inr (.inr (.inr fun data => ⟨data, .inr (.inl rfl)⟩))
  · exact .inr (.inr (.inr fun data => ⟨data, .inr (.inr (.inl rfl))⟩))
  · exact .inr (.inr (.inr fun data => ⟨data, .inr (.inr (.inr rfl))⟩))

/-- A block command starts, or raises KeyNotLoaded, whatever its block (R204). -/
theorem blockCommand_sameControl (dec : Bool) (s : State) (a b : Block) :
    ∃ t t', exec (blockCommand dec a) s = .next t ∧ Effect s (blockCommand dec b) t' ∧ SameControl t t' := by
  cases key : s.keyValid with
  | true => exact ⟨_, _, (Effect.start dec a key).exec_eq, .start dec b key, rfl, rfl, rfl, rfl, rfl⟩
  | false => exact ⟨_, _, (Effect.noKey dec a key).exec_eq, .noKey dec b key, .refl _⟩

/-- What a command does to the control registers does not depend on its data. -/
theorem Effect.sameControl_of_data {s t : State} {op : BitVec 3} {a : BitVec 64} (he : Effect s (decodeOp op a) t)
    (b : BitVec 64) : ∃ t', Effect s (decodeOp op b) t' ∧ SameControl t t' := by
  have ht := he.exec_eq
  obtain row | row | ⟨dec, row⟩ | code := decodeOp_class op
  · rw [row] at ht ⊢
    cases ht
    exact ⟨_, .nop b, .refl _⟩
  · rw [row] at ht ⊢
    cases ht
    exact ⟨_, .loadkey b, rfl, rfl, rfl, rfl, rfl⟩
  · rw [row] at ht ⊢
    obtain ⟨u, t', hu, he', same⟩ := blockCommand_sameControl dec s a b
    cases ht.symm.trans hu
    exact ⟨t', he', same⟩
  · rw [exec_reserved (code a)] at ht
    cases ht
    exact ⟨_, .reserved (code b), .refl _⟩

/-- The same row but for data does the same to two cores' control registers. -/
theorem Effect.sameControl_of_sameWork {s s' t : State} {i : Instr} {w' : Work} (he : Effect s i t)
    (h : SameControl s s') (hw : SameWork (.run i) w') :
    ∃ i' t', w' = .run i' ∧ Effect s' i' t' ∧ SameControl t t' := by
  obtain rfl | ⟨op, a, b, row, rfl⟩ := hw
  · obtain ⟨t', he', agree⟩ := he.sameControl h
    exact ⟨i, t', rfl, he', agree⟩
  · cases row
    obtain ⟨u, hu, ofData⟩ := he.sameControl_of_data b
    obtain ⟨t', he', agree⟩ := hu.sameControl h
    exact ⟨_, t', rfl, he', ofData.trans agree⟩

/-- No row uses up an item of the host's. -/
theorem Effect.inputs_eq {s t : State} {i : Instr} (he : Effect s i t) : t.inputs = s.inputs := by
  cases he with
  | _ => rfl

/-- WAITs stand in the same places of two hosts' items, so those that are over leave items alike. -/
theorem dropWaits_sameButData {q q' : List Input} (h : List.Forall₂ SameButData q q') :
    List.Forall₂ SameButData (q.dropWhile fun x => x == .wait) (q'.dropWhile fun x => x == .wait) := by
  induction h with
  | nil => exact .nil
  | cons same rest ih =>
    cases same with
    | edge => exact .cons (.edge ..) rest
    | hold => exact .cons (.hold ..) rest
    | wait => exact ih
    | unit => exact .cons (.unit ..) rest

theorem inputsAfter_sameButData {q q' : List Input} (h : List.Forall₂ SameButData q q') (busy : Bool) :
    List.Forall₂ SameButData (inputsAfter busy q) (inputsAfter busy q') := by
  cases h with
  | nil => exact .nil
  | cons same rest =>
    cases same with
    | edge | unit => exact rest
    | hold op a b =>
      cases busy
      · exact rest
      · exact .cons (.hold op a b) rest
    | wait =>
      cases busy
      · exact rest
      · exact .cons .wait rest

/-- Two edges alike but for `cmd_data` do the same work but for data. -/
theorem workAtEdge_sameWork (rst valid : Bool) (op : BitVec 3) (a b : BitVec 64) (ph : Phase) :
    SameWork (workAtEdge ⟨rst, valid, op, a⟩ ph) (workAtEdge ⟨rst, valid, op, b⟩ ph) := by
  cases rst with
  | true => exact .inl rfl
  | false =>
    cases ph with
    | ks | rnd | phase3 => exact .inl rfl
    | idle =>
      cases valid with
      | true => exact .inr ⟨op, a, b, rfl, rfl⟩
      | false => exact .inl rfl

section TwoCores

variable {s s' : State} (control : SameControl s s')
include control

theorem pending_sameButData (h : List.Forall₂ SameButData s.inputs s'.inputs) :
    List.Forall₂ SameButData s.pending s'.pending := by
  unfold State.pending
  rw [control.busy]
  split
  · exact h
  · exact dropWaits_sameButData h

theorem afterInput_sameButData (h : List.Forall₂ SameButData s.inputs s'.inputs) :
    List.Forall₂ SameButData s.afterInput.inputs s'.afterInput.inputs := by
  rw [State.afterInput_inputs, State.afterInput_inputs, control.busy]
  exact inputsAfter_sameButData (pending_sameButData control h) _

theorem work_sameWork (h : List.Forall₂ SameButData s.inputs s'.inputs) : SameWork (work s) (work s') := by
  have pend := pending_sameButData control h
  unfold work
  rw [control.phase]
  generalize s.pending = q, s'.pending = q' at pend
  cases pend with
  | nil => exact .inl rfl
  | cons same _ =>
    cases same with
    | edge rst valid op a b => exact workAtEdge_sameWork ..
    | hold op a b => exact workAtEdge_sameWork ..
    | wait | unit => exact .inl rfl

end TwoCores

/-- Settles O58: the two cores do the same work but for data, and each kind of work keeps the control registers alike. -/
theorem timingAndErrorsDoNotDependOnData : Obligations.TimingAndErrorsDoNotDependOnData := by
  intro s s' t control hq h
  have items := afterInput_sameButData control hq
  have same := work_sameWork control hq
  obtain ⟨hw, rfl⟩ | ⟨hw, rfl⟩ | ⟨i, hw, he⟩ := step_effect h <;> rw [hw] at same
  · exact ⟨_, step_of_reset (same.eq_of_no_row nofun), ⟨rfl, rfl, rfl, rfl, rfl⟩, items⟩
  · exact ⟨_, step_of_stay (same.eq_of_no_row nofun), control.afterInput, items⟩
  · obtain ⟨i', t', hw', he', agree⟩ := he.sameControl_of_sameWork control.afterInput same
    refine ⟨t', (step_of_run hw').trans he'.exec_eq, agree, ?_⟩
    rwa [he.inputs_eq, he'.inputs_eq]

end Sys2Proof.Machine
